-- ==== Sys2Proof/Word.lean ====
section
/-! DEFINITION. The word types and the update of a fixed-length table. -/

namespace Sys2Proof

/-- A 32-bit memory word (00_scope.md, Conventions). -/
abbrev Word := BitVec 32

/-- A byte. -/
abbrev Byte := BitVec 8

/-- Replaces entry `i` of a table of `n` entries. -/
def upd {α : Type} {n : Nat} (v : Vector α n) (i : Fin n) (x : α) : Vector α n :=
  v.set i.val x i.isLt

@[simp] theorem upd_get_same {α : Type} {n : Nat} (v : Vector α n) (i : Fin n) (x : α) :
    (upd v i x)[i] = x := by
  simp [upd]

@[simp] theorem upd_get_same_val {α : Type} {n : Nat} (v : Vector α n) (i : Fin n) (x : α) :
    (upd v i x)[i.val] = x := by
  simp [upd]

theorem upd_get_ne {α : Type} {n : Nat} (v : Vector α n) (i j : Fin n) (x : α) (h : i ≠ j) :
    (upd v i x)[j] = v[j] := by
  have h' : i.val ≠ j.val := fun e => h (Fin.ext e)
  simp [upd, h']

end Sys2Proof
end

