-- ==== Sys2Proof/Config.lean ====
section
/-! DEFINITION. The constants the spec fixes for the part, what an unwritten byte of table memory reads as, and
the one free value. -/

namespace Sys2Proof.Config

/-- What a byte of table memory reads as when nothing has written it. DESIGN CHOICE, unsafe: the spec
gives no power-on contents (02 R39); log 7. -/
def unwrittenByte : Byte := 0#8

/-- The power (bits 0 to 15) and inlet temperature (bits 16 to 23) that the record of module `i` shows while
its report is STALE with no reading, the `n`-th time that this comes about. A free value: 10 R172 and 12 R185
give zeros while the report is NONE, and nothing for this case (DESIGN CHOICE, log 40). -/
opaque unreadReading (i n : Nat) : BitVec 24

/-- The write queue's places (03 R50). -/
def queuePlaces : Nat := 16

/-- The queue length from which the table writer is escalated (03 R46). -/
def escalationLength : Nat := 12

/-- The queue entries an event append needs (03 R56). -/
def appendPlaces : Nat := 5

/-- The locked accesses one lock sequence may hold the port for (03 R48). -/
def lockLimit : Nat := 8

/-- Reference periods in a tick (02 R40). -/
def tickPeriods : Nat := 1000

/-- Ticks between two hour ticks (02 R41). -/
def hourTicks : Nat := 360000

/-- Ticks in a chassis-second (02 R41). -/
def secondTicks : Nat := 100

/-- Ticks of a tray's fall timer (09 R154). -/
def fallTicks : Nat := 100

/-- Points by which a commanded duty falls (09 R154). -/
def fallStep : Nat := 2

/-- Ticks of a tray's recovery timer (09 R156). -/
def recoveryTicks : Nat := 500

/-- Ticks of an alarm entry's clear timer (11 R175). -/
def clearTicks : Nat := 200

/-- The rise of duty that restarts spin-up (09 R151). -/
def spinUpRise : Nat := 10

/-- Reference periods after which a measurement is stalled (09 R148). -/
def stallPeriods : Nat := 65535

/-- Reference periods of the 25 ms link timeout (10 R168). -/
def stuckPeriods : Nat := 2500

/-- Agreeing samples that change a debounced line (10 R162). -/
def debounceSamples : Nat := 5

/-- Ticks of one phase of red flashing (11 R179). -/
def redPhase : Nat := 25

/-- Ticks of one phase of amber flashing (11 R179). -/
def amberPhase : Nat := 50

/-- The number of ports (00_scope.md). -/
def ports : Nat := 384

/-- Entries of the write list of the entry publication when LSA is present (02 R36). -/
def publicationWithLsa : Nat := 779

/-- Entries of the entry publication when LSA is absent (02 R36). -/
def publicationWithoutLsa : Nat := 763

/-- Steps allowed to one round of giving free queue entries to waiting values (03 R54). Each step gives
one entry, or finishes one record, so a round in one event never comes near this number. -/
def drainFuel : Nat := 2000

/-- Steps allowed to a producer that continues within one event: one entry of a zone takes at most 33
words and a flip 6. -/
def pumpFuel : Nat := 200

end Sys2Proof.Config
end

