-- ==== Sys2Proof/Syntax.lean ====
section
/-! DEFINITION. The commands: one constructor of `Instr` per row of spec/opcode_table.json, in the
table's order, with the operands the sender gives. -/

namespace Sys2Proof

/-- A supervisor side (00_scope.md). -/
inductive Side where
  | a | b
  deriving DecidableEq, Repr

/-- The other side. -/
def Side.other : Side → Side
  | .a => .b
  | .b => .a

/-- A port number 0..383. -/
abbrev Port := Fin 384

/-- A line-card slot 0..7; also a grant slot 0..7. -/
abbrev SlotIx := Fin 8

/-- A fan tray 0..3. -/
abbrev TrayIx := Fin 4

/-- A rotor 0..7. -/
abbrev RotorIx := Fin 8

/-- A power module position 0..3. -/
abbrev ModIx := Fin 4

/-- An alarm source 0..19 (11 R174). -/
abbrev Source := Fin 20

/-- One written word: its value and its four byte enables, bit n for byte n. -/
structure WriteWord where
  value : Word
  enables : BitVec 4
  deriving DecidableEq, Repr

/-- The data of an upstream write: one word, or the four words of a burst in burst order (01 R14). -/
inductive WriteData where
  | single (w : WriteWord)
  | burst (w0 w1 w2 w3 : WriteWord)
  deriving DecidableEq, Repr

/-- The two lines of a power module position (10 R162). -/
inductive ModLine where
  | pres | good
  deriving DecidableEq, Repr

/-- How a poll transaction ran on the link: the acknowledge after one of the four bytes that the part sends was
missing, or it ran to its stop and the part read five bytes (10 R165). -/
inductive PollReply where
  | noAck (byte : Fin 4)
  | bytes (powerLow powerHigh inlet flags check : Byte)
  deriving DecidableEq, Repr

/-- Where the part can lose arbitration in a transaction: at its start, at a bit of one of the four bytes that it
sends, counted from the most significant, or at its repeated start (10 R165, R167). An ARB_LOST that names no point is
one at the start. -/
inductive LinkPoint where
  | start
  | bit (byte : Fin 4) (n : Fin 8)
  | repeatedStart
  deriving DecidableEq, Repr

/-- The commands of the part: one constructor per row of spec/opcode_table.json. -/
inductive Instr where
  | pwrupResetAssert
  | pwrupResetDeassert (memSize descSel : BitVec 2)
  | upstreamRead (side : Side) (addr : BitVec 24) (burst lock : Bool)
  | upstreamWrite (side : Side) (addr : BitVec 24) (data : WriteData) (lock : Bool)
  | loadStart (side : Side) (w : WriteWord) (lock : Bool)
  | descriptorChanged (side : Side) (word : Fin 128) (w : WriteWord) (lock : Bool)
  | loadFirstRead
  | loadReadData (err : Bool)
  | entryPublicationEnd
  | desiredOn (side : Side) (port : Port) (w : WriteWord) (lock : Bool)
  | desiredOff (side : Side) (port : Port) (w : WriteWord) (lock : Bool)
  | speedChange (side : Side) (port : Port) (speed : BitVec 2) (tag : Byte) (lock : Bool)
  | heartbeat (side : Side) (w : WriteWord) (lock : Bool)
  | consumerIndexWrite (side : Side) (value : Word) (lock : Bool)
  | zewWrite (side : Side) (offset : BitVec 16) (data : WriteData) (lock : Bool)
  | claim (side : Side) (tag : BitVec 16) (lock : Bool)
  | release (side : Side) (tag : BitVec 16) (lock : Bool)
  | commit (side : Side) (tag : BitVec 16) (lock : Bool)
  | clone (side : Side) (tag : BitVec 16) (lock : Bool)
  | operationFirstRead
  | resume (side : Side) (tag : BitVec 16) (lock : Bool)
  | abandon (side : Side) (tag : BitVec 16) (lock : Bool)
  | restart (side : Side) (tag : BitVec 16) (lock : Bool)
  | closingEnd
  | ack (side : Side) (source : Byte) (tag : BitVec 16) (lock : Bool)
  | install (side : Side) (slot : SlotIx) (tag : BitVec 16) (lock : Bool)
  | installReadData (err : Bool)
  | remove (side : Side) (slot : SlotIx) (tag : BitVec 16) (lock : Bool)
  | hourTick
  | tick (modPres modGood : BitVec 4)
  | chassisSecond
  | heartbeatExpiry (side : Side)
  | runDeassert (side : Side)
  | runAssert (side : Side)
  | bypassAssert
  | bypassDeassert
  | accessEnd (errs : BitVec 4)
  | twWritePerformed
  | waitingValueJoins
  | publishPendingQueued
  | publishedProducerUpdate
  | slotPresDeassert (slot : SlotIx)
  | slotPresAssert (slot : SlotIx)
  | commitReadData (err : Bool)
  | flipComplete
  | cloneReadData (err : Bool)
  | goodMeasurement (rotor : RotorIx)
  | stalledMeasurement (rotor : RotorIx)
  | spinUpExpiry (rotor : RotorIx)
  | fallTimerExpiry (tray : TrayIx)
  | derateTimerExpiry (tray : TrayIx)
  | recoveryTimerExpiry (tray : TrayIx)
  | trayInsertion (tray : TrayIx)
  | trayRemoval (tray : TrayIx)
  | debouncedChange (mod : ModIx) (line : ModLine)
  | pollTimerExpiry
  | pollAttemptStart
  | pollAttemptEnd (reply : PollReply)
  | arbLost (point : LinkPoint := .start)
  | linkStuck
  | clearTimerExpiry (source : Source)
  | indicatorFlash
  | tachEdge (rotor : RotorIx)
  | abandonedReadData (err : Bool)
  | linkBusyChange (busy clkLow : Bool)
  deriving DecidableEq, Repr

end Sys2Proof
end

