-- ==== Sys2Proof/WellFormed.lean ====
section
/-! DEFINITION. The checks on a command's operands that its types do not make: addresses are those of
whole words (00_scope.md, Memory). Every other operand is in range by its type. -/

namespace Sys2Proof

/-- Whether a command can be presented to the part: an access is addressed by a whole word. -/
def Instr.wellFormed : Instr → Bool
  | .upstreamRead _ addr _ _ => addr.toNat % 4 == 0
  | .upstreamWrite _ addr _ _ => addr.toNat % 4 == 0
  | .zewWrite _ offset _ _ => offset.toNat % 4 == 0
  | .pwrupResetAssert => true
  | .pwrupResetDeassert _ _ => true
  | .loadStart _ _ _ => true
  | .descriptorChanged _ _ _ _ => true
  | .loadFirstRead => true
  | .loadReadData _ => true
  | .entryPublicationEnd => true
  | .desiredOn _ _ _ _ => true
  | .desiredOff _ _ _ _ => true
  | .speedChange _ _ _ _ _ => true
  | .heartbeat _ _ _ => true
  | .consumerIndexWrite _ _ _ => true
  | .claim _ _ _ => true
  | .release _ _ _ => true
  | .commit _ _ _ => true
  | .clone _ _ _ => true
  | .operationFirstRead => true
  | .resume _ _ _ => true
  | .abandon _ _ _ => true
  | .restart _ _ _ => true
  | .closingEnd => true
  | .ack _ _ _ _ => true
  | .install _ _ _ _ => true
  | .installReadData _ => true
  | .remove _ _ _ _ => true
  | .hourTick => true
  | .tick _ _ => true
  | .chassisSecond => true
  | .heartbeatExpiry _ => true
  | .runDeassert _ => true
  | .runAssert _ => true
  | .bypassAssert => true
  | .bypassDeassert => true
  | .accessEnd _ => true
  | .twWritePerformed => true
  | .waitingValueJoins => true
  | .publishPendingQueued => true
  | .publishedProducerUpdate => true
  | .slotPresDeassert _ => true
  | .slotPresAssert _ => true
  | .commitReadData _ => true
  | .flipComplete => true
  | .cloneReadData _ => true
  | .goodMeasurement _ => true
  | .stalledMeasurement _ => true
  | .spinUpExpiry _ => true
  | .fallTimerExpiry _ => true
  | .derateTimerExpiry _ => true
  | .recoveryTimerExpiry _ => true
  | .trayInsertion _ => true
  | .trayRemoval _ => true
  | .debouncedChange _ _ => true
  | .pollTimerExpiry => true
  | .pollAttemptStart => true
  | .pollAttemptEnd _ => true
  | .arbLost _ => true
  | .linkStuck => true
  | .clearTimerExpiry _ => true
  | .indicatorFlash => true
  | .tachEdge _ => true
  | .abandonedReadData _ => true
  | .linkBusyChange _ _ => true

end Sys2Proof
end

