-- ==== Sys2Proof/Machine/State.lean ====
section
/-! DEFINITION. The state of the part: every piece of state the spec gives it, as plain data, the queue of
waiting commands, and the state right after power-on reset. -/

namespace Sys2Proof.Machine

/-! ### Enumerations (12 section 12.1 gives their codes, see Operands.lean) -/

/-- Operating states (02 R24). -/
inductive OpState where
  | transparent | loading | supervising
  deriving DecidableEq, Repr

/-- Verdicts of a load (02 R33). -/
inductive Verdict where
  | none | loading | accepted | badCrc | badVersion | badRegion | badCurve | badLimit
  | descriptorChanged | memoryError
  deriving DecidableEq, Repr

/-- States of a control record (01 R22). -/
inductive RecState where
  | idle | running | done
  deriving DecidableEq, Repr

/-- Outcomes, and the causes of a bank header (12 section 12.1). -/
inductive Outcome where
  | none | done | withdrawn | abortedRestart | abortedEdit | abandoned | abandonedMastership
  | memoryError | badCount | overrun | zoneOrder | memberRange | memberOrder | memberCount
  | tooManyMembers | badField | badCheck | duplicate
  deriving DecidableEq, Repr

/-- Refuse reasons (01 R21). -/
inductive RefuseReason where
  | none | notActive | busy | badCode | suspended | nothingSuspended | noStandby
  | slotOccupied | slotEmpty | notRaised
  deriving DecidableEq, Repr

/-- Drop reasons (01 R16). -/
inductive DropReason where
  | standby | noMaster | partOwned | stagingSuspended | lockedDescriptor | partialRequest
  deriving DecidableEq, Repr

/-- Grant slot states (05 R76). -/
inductive SlotState where
  | empty | installing | active | expired | rejected
  deriving DecidableEq, Repr

/-- Reasons of a port (07 R107). -/
inductive PortReason where
  | none | notRequested | slotEmpty | thermal | unlicensed | power | shed
  deriving DecidableEq, Repr

/-- Licence sources of a port (05 R75). -/
inductive LicSource where
  | none | base | group | pool
  deriving DecidableEq, Repr

/-- States of a zone bank header (08 R124). -/
inductive HeaderState where
  | blank | staged | valid | invalid | stale
  deriving DecidableEq, Repr

/-- Zoning operation states, and suspended stages (08 R123). -/
inductive ZonState where
  | idle | validating | marking | flipping | suspended | cloning
  deriving DecidableEq, Repr

/-- Redundancy modes (06 R95). -/
inductive Redundancy where
  | none | nPlus1 | grid
  deriving DecidableEq, Repr

/-- Arbitration modes (03 R42). -/
inductive ArbMode where
  | fixed | rotating
  deriving DecidableEq, Repr

/-- Severities (11 R174). -/
inductive Severity where
  | none | minor | major | critical
  deriving DecidableEq, Repr

/-- Rotor states (09 R150). -/
inductive RotorState where
  | absent | spinup | ok | slow | stalled
  deriving DecidableEq, Repr

/-- Measurement phases of a rotor (09 R148). -/
inductive Phase where
  | stopped | waiting | timing
  deriving DecidableEq, Repr

/-- Tray states (09 R152). -/
inductive TrayState where
  | absent | ok | degraded | failed
  deriving DecidableEq, Repr

/-- Module states (10 R163). -/
inductive ModState where
  | absent | healthy | degraded | failed
  deriving DecidableEq, Repr

/-- Report validity (10 R161). -/
inductive Validity where
  | none | valid | stale
  deriving DecidableEq, Repr

/-- Last outcomes of a module's attempts (10 R161). -/
inductive LinkOutcome where
  | none | ok | noAck | badCheck | arbLost | deferred | stuck
  deriving DecidableEq, Repr

/-- Causes of a change of master side (04 R64). -/
inductive MastCause where
  | expiry | runLost | release | claim
  deriving DecidableEq, Repr

/-- Kinds of grant (05 section 5.2). -/
inductive GrantKind where
  | group | pool
  deriving DecidableEq, Repr

/-- Causes of a THERMAL_HOLD event (09 R158). -/
inductive HoldCause where
  | tray (t : TrayIx) | recovery | critical | criticalEnd
  deriving DecidableEq, Repr

/-- Indicator patterns (11 R179). -/
inductive Pattern where
  | greenSteady | amberSteady | amberFlash | redFlash
  deriving DecidableEq, Repr

/-- A tick timer (02 R40): stopped, running with ticks left, or `expired`: it has reached 0 in the
current tick and its expiry is still to be taken (log 2). -/
inductive Timer where
  | stopped
  | running (left : Nat)
  | expired
  deriving DecidableEq, Repr

/-! ### Lines -/

/-- Lines into the part and the strap values it has sampled (00_scope.md, Signal summary). -/
structure Pins where
  /-- PWRUP_RESET asserted (02 R39). -/
  inReset : Bool
  /-- MEM_SIZE as sampled (02 R23). -/
  memSel : BitVec 2
  /-- DESC_SEL as sampled (02 R23). -/
  descSel : BitVec 2
  runA : Bool
  runB : Bool
  /-- SLOT_PRES[0..7]. -/
  slotPres : BitVec 8
  /-- TRAY_PRES[0..3], which is the fan unit's tray present (09 R146). -/
  trayPres : BitVec 4
  /-- MOD_PRES[0..3] as last sampled. -/
  modPres : BitVec 4
  /-- MOD_GOOD[0..3] as last sampled. -/
  modGood : BitVec 4
  bypass : Bool
  /-- LINK_CLK held low by any device (10 R168). -/
  linkClkLow : Bool
  deriving DecidableEq, Repr

/-! ### Region map and parameters (02 section 2.4, 12 section 12.2) -/

/-- A region: its base and its limit; absent when they are equal (01 R2). -/
structure Region where
  base : Nat
  limit : Nat
  deriving DecidableEq, Repr

/-- The region map (01 R1). -/
structure Regions where
  pct : Region
  lsa : Region
  ccp : Region
  zew : Region
  zb0 : Region
  zb1 : Region
  esa : Region
  evr : Region
  deriving DecidableEq, Repr

/-- Per-slot parameters. -/
structure SlotParams where
  capable : Bool
  class1 : Nat
  class2 : Nat
  cardBase : Nat
  shedRank : Nat
  deriving DecidableEq, Repr

/-- Per-tray parameters. -/
structure TrayParams where
  maxRpm : Nat
  maxWatts : Nat
  cooling : BitVec 8
  deriving DecidableEq, Repr

/-- Per-module parameters. -/
structure ModParams where
  capacity : Nat
  address : BitVec 7
  deriving DecidableEq, Repr

/-- A point of the fan curve. -/
structure CurvePoint where
  temp : Int
  duty : Nat
  deriving DecidableEq, Repr

/-- The descriptor parameters that the units read. -/
structure Params where
  serial : BitVec 64
  slots : Vector SlotParams 8
  trays : Vector TrayParams 4
  mods : Vector ModParams 4
  redundancy : Redundancy
  mode : ArbMode
  brightness : Nat
  minDuty : Nat
  reserve : Nat
  chassisBase : Nat
  margin : Nat
  curve : Vector CurvePoint 4
  warn : Int
  critical : Int
  spinUpTicks : Nat
  derateTicks : Nat
  heartbeatTicks : Nat
  pollTicks : Nat
  kindMask : BitVec 32
  ringCapacity : Nat
  zoneLimit : Nat
  memberLimit : Nat
  baseGroups : BitVec 48
  deriving DecidableEq, Repr

/-! ### Upstream accesses -/

/-- Where a word of a forwarded access is performed: at an address, or through the edit window at an
offset of the bank that is staging when it is performed (01 R12). -/
inductive Target where
  | plain (addr : Nat)
  | window (offset zb0 zb1 : Nat)
  deriving DecidableEq, Repr

/-- One word of a forwarded write. A word that carries a port is a PCT word whose bytes 2–3 take the
port's status when it is performed (01 R8). -/
structure WordOp where
  target : Target
  value : Word
  enables : BitVec 4
  port : Option Port
  deriving DecidableEq, Repr

/-- What a forwarded access does. -/
inductive AccessBody where
  | read (targets : List Target)
  | write (ops : List WordOp)
  deriving DecidableEq, Repr

/-- An upstream access as the classifier has forwarded it (01 R1). -/
structure Access where
  /-- The byte address presented. -/
  addr : Nat
  lock : Bool
  /-- The write touched DESC word 127 in TRANSPARENT and started the load (02 R25). -/
  startsLoad : Bool
  body : AccessBody
  deriving DecidableEq, Repr

/-- A write held upstream (01 R13), as it was presented. -/
structure HeldWrite where
  addr : Nat
  data : WriteData
  lock : Bool
  deriving DecidableEq, Repr

/-- What was last completed upstream on a supervisor bus: nothing yet, a write, or read data, each
word with its memory check error indication (01 R3, R17; log 20). -/
inductive Completion where
  | none
  | write
  | read (words : List (Word × Bool))
  deriving DecidableEq, Repr

/-- A supervisor bus as the part sees it. -/
structure SideBus where
  done : Completion
  held : Option HeldWrite
  deriving DecidableEq, Repr

/-- The two supervisor buses. -/
structure Buses where
  a : SideBus
  b : SideBus
  deriving DecidableEq, Repr

/-- The drop record (01 R16). -/
structure DropRecord where
  count : Nat
  addr : Nat
  side : Side
  reason : DropReason
  deriving DecidableEq, Repr

/-! ### Control records (01 R20 to R22) -/

/-- The twelve control records. -/
inductive CtlId where
  | mastership | zoning | restart | alarmAck
  | slot (k : SlotIx)
  deriving DecidableEq, Repr

/-- The part-owned words of a control record. -/
structure CtlRec where
  state : RecState
  outcome : Outcome
  detail : BitVec 16
  refusedTag : BitVec 16
  refusedReason : RefuseReason
  deriving DecidableEq, Repr

/-- All control records. -/
structure Ctls where
  mastership : CtlRec
  zoning : CtlRec
  restart : CtlRec
  alarmAck : CtlRec
  slots : Vector CtlRec 8
  deriving DecidableEq, Repr

/-! ### Table writer (03) -/

/-- Classes of a queue entry (03 R50). -/
inductive EntryClass where
  | urgent | normal | status | event
  deriving DecidableEq, Repr

/-- Which unit queued an entry, and for which operation (03 R50). `publicationEnd` marks the last entry
of the entry publication, `liveWord` a flip's live-word entry. -/
inductive Origin where
  | loader | publication | publicationEnd | classifier | mastership | restart | install (k : SlotIx)
  | licence | governor | zoning | liveWord | fan | module | alarm | ring
  deriving DecidableEq, Repr

/-- A write queue entry (03 R50), with the serial number by which operations name it. -/
structure Entry where
  id : Nat
  target : Nat
  value : Word
  mask : BitVec 4
  cls : EntryClass
  origin : Origin
  deriving DecidableEq, Repr

/-- Operations that issue internal reads (03 R57). -/
inductive ReadOp where
  | loader
  | install (k : SlotIx)
  | zoning
  deriving DecidableEq, Repr

/-- The outstanding internal read; without an operation it is abandoned (03 R57). -/
structure OutRead where
  target : Nat
  op : Option ReadOp
  deriving DecidableEq, Repr

/-- An operation on the read waiting list, with its target (03 R57). -/
structure ReadWait where
  op : ReadOp
  target : Nat
  deriving DecidableEq, Repr

/-- The records that are published as STATUS entries (03 R55). -/
inductive RecordId where
  | drop | budget | licence | zoning | fan | link | alarms | mastership | results
  | tray (t : TrayIx)
  | module (i : ModIx)
  | ctlStatus (c : CtlId)
  | ctlRefused (c : CtlId)
  | port (p : Port)
  deriving DecidableEq, Repr

/-- What waits for a free queue entry (03 R54, R55): a value held at its producer, a publish-pending
record with the addresses of its words still to be queued, or the entry publication. -/
inductive Waiter where
  | value (e : Entry)
  | record (r : RecordId) (left : List Nat)
  | publication
  deriving DecidableEq, Repr

/-- The table writer (03 R50 to R57). -/
structure TableWriter where
  queue : List Entry
  waiting : List Waiter
  read : Option OutRead
  readList : List ReadWait
  nextId : Nat
  deriving DecidableEq, Repr

/-! ### Port arbiter (03 R42) -/

/-- The requesters of the table memory port. -/
inductive Requester where
  | spa | spb | tw
  deriving DecidableEq, Repr

/-- The access in progress on the port. A table writer's write carries the entry chosen at the grant. -/
inductive Current where
  | up (side : Side) (acc : Access)
  | twWrite (e : Entry)
  | twRead
  deriving DecidableEq, Repr

/-- The port arbiter's state. -/
structure PortArb where
  owner : Option Requester
  parked : Bool
  lockCount : Nat
  rotation : List Requester
  mode : ArbMode
  current : Option Current
  waitA : Option Access
  waitB : Option Access
  deriving DecidableEq, Repr

/-! ### Descriptor loader and time base (02) -/

/-- What the loader keeps of a PCT word (02 R26). -/
structure PctFields where
  desired : Bool
  speed : BitVec 2
  deriving DecidableEq, Repr

/-- The descriptor loader. -/
structure Loader where
  op : OpState
  side : Side
  position : Nat
  crc : Word
  image : List Word
  pctImage : List PctFields
  clampCount : Nat
  /-- The clamped parameters and the regions of the descriptor judged in step 1 (02 R26). -/
  candidate : Params
  candidateRegions : Regions
  /-- The first read still waits for the write that started the load (02 R25). -/
  awaitStart : Bool
  /-- The next entry of the entry publication, while it runs (02 R36). -/
  pub : Option Nat
  /-- TVALID (02 R24). -/
  tvalid : Bool
  /-- While the part is closing: the entries and waiting values it waits for (02 R37). -/
  closing : Option (List Nat)
  deriving DecidableEq, Repr

/-- The time base (02 R40, R41). -/
structure TimeBase where
  refCount : Nat
  seconds : BitVec 32
  hourCount : Nat
  secondDue : Bool
  hourDue : Bool
  deriving DecidableEq, Repr

/-! ### Mastership unit (04 R59) -/

/-- A pending claim. -/
structure Claim where
  side : Side
  tag : BitVec 16
  deriving DecidableEq, Repr

/-- The mastership unit; a master side of NONE is `none`. -/
structure Mastership where
  master : Option Side
  generation : BitVec 16
  timerA : Timer
  timerB : Timer
  claim : Option Claim
  eligible : Bool
  deriving DecidableEq, Repr

/-! ### Licence unit (05 R74) -/

/-- An installed grant. -/
structure Grant where
  id : Word
  kind : GrantKind
  poolCount : Nat
  groups : BitVec 48
  term : Nat
  deriving DecidableEq, Repr

/-- A grant slot. -/
structure GrantSlot where
  state : SlotState
  grant : Option Grant
  remaining : Nat
  /-- The body words read so far by an INSTALL (05 R79). -/
  image : List Word
  deriving DecidableEq, Repr

/-- The licence summary (05 R91). -/
structure LicSummary where
  total : Nat
  assigned : Nat
  heldUnlicensed : Nat
  deriving DecidableEq, Repr

/-- The licence unit. -/
structure Licence where
  base : BitVec 48
  slots : Vector GrantSlot 8
  poolTotal : Nat
  pool : List Port
  summary : LicSummary
  deriving DecidableEq, Repr

/-! ### Port governor (06 R93, 07 R104) -/

/-- A port table entry. -/
structure PortEntry where
  desired : Bool
  speed : BitVec 2
  effective : Bool
  reason : PortReason
  source : LicSource
  deriving DecidableEq, Repr

/-- The port governor: port table, held list, thermal hold set and budget state. -/
structure Governor where
  ports : Vector PortEntry 384
  held : List Port
  thermal : BitVec 8
  modState : Vector ModState 4
  trayPresent : BitVec 4
  duty : Vector Nat 4
  slotPresent : BitVec 8
  contrib : Vector Nat 4
  available : Nat
  fanLoad : Nat
  fixedLoad : Nat
  headroom : Nat
  committed : Nat
  heldPower : Nat
  heldShed : Nat
  deriving DecidableEq, Repr

/-! ### Zoning unit (08 R123) -/

/-- The entry buffer: the entry word, its member words so far, and what their judgement needs. -/
structure ZonEntry where
  word : Word
  count : Nat
  members : List Word
  masked : Nat
  lastMember : Option Nat
  deriving DecidableEq, Repr

/-- A word the operation has still to queue (08 R134, R135, R141). -/
structure BankWrite where
  target : Nat
  value : Word
  live : Bool
  deriving DecidableEq, Repr

/-- What follows once the operation's words have joined the queue. -/
inductive ZonAfter where
  | nothing | entryDone | cloneWord | cloneEnd
  deriving DecidableEq, Repr

/-- The four zoning result words (08 R145). -/
structure ZonResults where
  masked : Nat
  empty : Nat
  generation : BitVec 16
  total : Nat
  deriving DecidableEq, Repr

/-- The zoning unit. -/
structure Zoning where
  liveBank : Fin 2
  liveGen : BitVec 16
  op : ZonState
  susp : Option ZonState
  pos : Nat
  entryIx : Nat
  count : Nat
  total : Nat
  masked : Nat
  empty : Nat
  used : Nat
  digest : Word
  cur : Option ZonEntry
  prevId : Nat
  snapshot : Option (BitVec 384)
  flipGen : Option (BitVec 16)
  liveQueued : Bool
  withheld : Option BankWrite
  writes : List BankWrite
  after : ZonAfter
  firstReadDue : Bool
  /-- Live header words 5, 0, 2, 3, 4 read by a clone, in that order (08 R141). -/
  cloneHdr : List Word
  results : ZonResults
  /-- The last live-word value queued since the entry to SUPERVISING (02 R36). -/
  lastLive : Option Word
  deriving DecidableEq, Repr

/-! ### Fan unit (09 R146) -/

/-- Per-tray state; tray present is the line `Pins.trayPres`. -/
structure Tray where
  state : TrayState
  duty : Nat
  fall : Timer
  derate : Timer
  recovery : Timer
  recovered : Bool
  hold : Bool
  deriving DecidableEq, Repr

/-- Per-rotor state. -/
structure Rotor where
  phase : Phase
  edges : Nat
  periods : Nat
  /-- Samples in rpm, oldest first. -/
  ring : List Nat
  filtered : Nat
  state : RotorState
  spin : Timer
  low : Nat
  deriving DecidableEq, Repr

/-- The fan unit. -/
structure Fans where
  trays : Vector Tray 4
  rotors : Vector Rotor 8
  target : Nat
  tc : Option Int
  critHold : Bool
  holdSet : BitVec 8
  deriving DecidableEq, Repr

/-! ### Module unit and management link (10 R161) -/

/-- A debounced line: its level, its count 0..4, and whether five samples have agreed on a change that
is still to be taken (log 2). -/
structure Debounce where
  level : Bool
  count : Nat
  due : Bool
  deriving DecidableEq, Repr

/-- A module's reading. -/
structure Reading where
  power : Nat
  inlet : Int
  inputLost : Bool
  overtemp : Bool
  fanFault : Bool
  deriving DecidableEq, Repr

/-- Per-module state. -/
structure Module where
  pres : Debounce
  good : Debounce
  validity : Validity
  reading : Option Reading
  failures : Nat
  last : LinkOutcome
  judged : Bool
  state : ModState
  /-- How many free values the model has drawn for this module's reading fields: a field of the model, not
  of the spec (log 40). -/
  unread : Nat
  deriving DecidableEq, Repr

/-- A symbol of a transaction on the management link, as the part clocks it (10 R165, R168): a condition, a bit
that the part sends, a bit that it reads with LINK_DATA released, a clock pulse of a recovery, or a bit or repeated
start that it gives up because it has released LINK_DATA and reads it low (10 R167). -/
inductive LinkSymbol where
  | start | repeatedStart | stop
  | send (high : Bool)
  | receive (high : Bool)
  | pulse
  | lost
  deriving DecidableEq, Repr

/-- An attempt in flight (10 R165): waiting for a free link until `started`. It keeps the link address that it
began with (10 R169). -/
structure Attempt where
  module : ModIx
  address : BitVec 7
  retry : Bool
  started : Bool
  /-- Its outcome is discarded (10 R169). -/
  discard : Bool
  deriving DecidableEq, Repr

/-- The module unit and the management link. -/
structure Modules where
  mods : Vector Module 4
  pollTimer : Timer
  /-- The position of a running round. -/
  round : Option ModIx
  roundDue : Bool
  attempt : Option Attempt
  /-- The attempts left in flight by RESTART closings, first on the link first (10 R169). -/
  leftover : List Attempt
  /-- What the part has put on the link in its last transaction or recovery, from its first symbol (10 R165,
  R168; log 26). -/
  wire : List LinkSymbol
  linkBusy : Bool
  heldClock : Nat
  busyCount : Nat
  /-- The 25 ms have been exceeded and LINK_STUCK is still to be taken (log 15). -/
  stuckDue : Bool
  tc : Option Int
  available : Nat
  reportedSum : Nat
  overdraw : Bool
  deriving DecidableEq, Repr

/-! ### Alarm unit and event ring (11 R173, R181) -/

/-- An entry of the active alarm list. -/
structure AlarmEntry where
  source : Source
  severity : Severity
  raised : BitVec 32
  acked : Bool
  clear : Timer
  deriving DecidableEq, Repr

/-- The alarm unit. -/
structure Alarms where
  conds : Vector Severity 20
  inPower : Bool
  inShed : Bool
  inZero : Bool
  inOverdraw : Bool
  tc : Option Int
  list : List AlarmEntry
  pattern : Pattern
  lit : Bool
  flash : Timer
  deriving DecidableEq, Repr

/-- The event ring unit. -/
structure Ring where
  producer : Nat
  consumer : Nat
  published : Nat
  lost : Nat
  seq : BitVec 16
  deriving DecidableEq, Repr

/-! ### The whole state -/

/-- The state of the part and of table memory, with the queue of waiting commands. -/
structure State where
  pending : List Instr
  mem : List Host.Cell
  pins : Pins
  ldr : Loader
  params : Params
  regions : Regions
  time : TimeBase
  port : PortArb
  tw : TableWriter
  bus : Buses
  drop : DropRecord
  ctl : Ctls
  mast : Mastership
  lic : Licence
  gov : Governor
  zon : Zoning
  fan : Fans
  mdl : Modules
  alm : Alarms
  ring : Ring
  deriving DecidableEq, Repr

/-- Reasons for which the machine stops with a fault. There are none: the spec gives every event an
effect. -/
inductive Fault where
  deriving DecidableEq, Repr

/-- Reasons for which a command has no meaning. -/
inductive Refusal where
  /-- The command's meaning is not written. No arm of `exec` answers so; safe. -/
  | notModelled (mnemonic : String)
  deriving DecidableEq, Repr

/-! ### Setters: one per field, so that proofs keep updates folded (Laws/State.lean) -/

namespace State
def setPending (s : State) (x : List Instr) : State := { s with pending := x }
def setMem (s : State) (x : List Host.Cell) : State := { s with mem := x }
def setPins (s : State) (x : Pins) : State := { s with pins := x }
def setLdr (s : State) (x : Loader) : State := { s with ldr := x }
def setParams (s : State) (x : Params) : State := { s with params := x }
def setRegions (s : State) (x : Regions) : State := { s with regions := x }
def setTime (s : State) (x : TimeBase) : State := { s with time := x }
def setPort (s : State) (x : PortArb) : State := { s with port := x }
def setTw (s : State) (x : TableWriter) : State := { s with tw := x }
def setBus (s : State) (x : Buses) : State := { s with bus := x }
def setDrop (s : State) (x : DropRecord) : State := { s with drop := x }
def setCtl (s : State) (x : Ctls) : State := { s with ctl := x }
def setMast (s : State) (x : Mastership) : State := { s with mast := x }
def setLic (s : State) (x : Licence) : State := { s with lic := x }
def setGov (s : State) (x : Governor) : State := { s with gov := x }
def setZon (s : State) (x : Zoning) : State := { s with zon := x }
def setFan (s : State) (x : Fans) : State := { s with fan := x }
def setMdl (s : State) (x : Modules) : State := { s with mdl := x }
def setAlm (s : State) (x : Alarms) : State := { s with alm := x }
def setRing (s : State) (x : Ring) : State := { s with ring := x }
end State

/-! ### Power-on values, unit by unit -/

/-- The empty region map (01 R1). -/
def Regions.empty : Regions :=
  let e : Region := ⟨0, 0⟩
  ⟨e, e, e, e, e, e, e, e⟩

/-- No descriptor parameters are held (02 section 2.3): zeros, which no unit reads before a descriptor
is accepted (log 29). -/
def Params.none : Params :=
  { serial := 0, slots := Vector.replicate 8 ⟨false, 0, 0, 0, 0⟩
    trays := Vector.replicate 4 ⟨0, 0, 0⟩, mods := Vector.replicate 4 ⟨0, 0⟩
    redundancy := .none, mode := .rotating, brightness := 0, minDuty := 0, reserve := 0
    chassisBase := 0, margin := 0, curve := Vector.replicate 4 ⟨0, 0⟩, warn := 0, critical := 0
    spinUpTicks := 0, derateTicks := 0, heartbeatTicks := 0, pollTicks := 0, kindMask := 0
    ringCapacity := 0, zoneLimit := 0, memberLimit := 0, baseGroups := 0 }

/-- The loader's power-on values (02 section 2.3). -/
def Loader.powerOn : Loader :=
  { op := .transparent, side := .a, position := 0, crc := 0, image := [], pctImage := []
    clampCount := 0, candidate := Params.none, candidateRegions := Regions.empty
    awaitStart := false, pub := none, tvalid := false, closing := none }

/-- The time base at power-on (02 R40, R41). -/
def TimeBase.powerOn : TimeBase := ⟨0, 0, 0, false, false⟩

/-- The arbiter at power-on (03 R42). -/
def PortArb.powerOn : PortArb :=
  { owner := none, parked := false, lockCount := 0, rotation := [.spa, .spb, .tw]
    mode := .rotating, current := none, waitA := none, waitB := none }

/-- The table writer at power-on (03 R50, R57). -/
def TableWriter.powerOn : TableWriter := ⟨[], [], none, [], 0⟩

/-- The supervisor buses at power-on (log 20). -/
def Buses.powerOn : Buses := ⟨⟨.none, none⟩, ⟨.none, none⟩⟩

/-- The drop record at power-on (01 R16). -/
def DropRecord.powerOn : DropRecord := ⟨0, 0, .a, .standby⟩

/-- A control record that has taken and refused nothing (01 R22). -/
def CtlRec.powerOn : CtlRec := ⟨.idle, .none, 0, 0, .none⟩

/-- The control records at power-on (01 R22). -/
def Ctls.powerOn : Ctls :=
  ⟨.powerOn, .powerOn, .powerOn, .powerOn, Vector.replicate 8 .powerOn⟩

/-- The mastership unit at power-on (04 R59). -/
def Mastership.powerOn : Mastership := ⟨none, 0, .stopped, .stopped, none, false⟩

/-- An EMPTY grant slot (05 R74). -/
def GrantSlot.powerOn : GrantSlot := ⟨.empty, none, 0, []⟩

/-- The licence unit at power-on (05 R74). -/
def Licence.powerOn : Licence :=
  ⟨0, Vector.replicate 8 .powerOn, 0, [], ⟨0, 0, 0⟩⟩

/-- A port table entry at power-on (07 R104). -/
def PortEntry.powerOn : PortEntry := ⟨false, 0, false, .slotEmpty, .none⟩

/-- The governor at power-on (06 R93, 07 R104). -/
def Governor.powerOn : Governor :=
  { ports := Vector.replicate 384 .powerOn, held := [], thermal := 0
    modState := Vector.replicate 4 .absent, trayPresent := 0, duty := Vector.replicate 4 100
    slotPresent := 0, contrib := Vector.replicate 4 0, available := 0, fanLoad := 0
    fixedLoad := 0, headroom := 0, committed := 0, heldPower := 0, heldShed := 0 }

/-- The zoning unit at power-on (08 R123). -/
def Zoning.powerOn : Zoning :=
  { liveBank := 0, liveGen := 0, op := .idle, susp := none, pos := 0, entryIx := 0, count := 0
    total := 0, masked := 0, empty := 0, used := 0, digest := 0, cur := none, prevId := 0
    snapshot := none, flipGen := none, liveQueued := false, withheld := none, writes := []
    after := .nothing, firstReadDue := false, cloneHdr := [], results := ⟨0, 0, 0, 0⟩
    lastLive := none }

/-- A tray at power-on (09 R146). -/
def Tray.powerOn : Tray := ⟨.absent, 100, .stopped, .stopped, .stopped, true, false⟩

/-- A rotor at power-on (09 R146). -/
def Rotor.powerOn : Rotor := ⟨.stopped, 0, 0, [], 0, .absent, .stopped, 0⟩

/-- The fan unit at power-on (09 R146). -/
def Fans.powerOn : Fans :=
  ⟨Vector.replicate 4 .powerOn, Vector.replicate 8 .powerOn, 100, none, false, 0⟩

/-- A module at power-on (10 R161). -/
def Module.powerOn : Module :=
  { pres := ⟨false, 0, false⟩, good := ⟨false, 0, false⟩, validity := .none, reading := none
    failures := 0, last := .none, judged := false, state := .absent, unread := 0 }

/-- The module unit at power-on (10 R161). -/
def Modules.powerOn : Modules :=
  { mods := Vector.replicate 4 .powerOn, pollTimer := .stopped, round := none, roundDue := false
    attempt := none, leftover := [], wire := [], linkBusy := false, heldClock := 0, busyCount := 0
    stuckDue := false, tc := none, available := 0, reportedSum := 0, overdraw := false }

/-- The alarm unit at power-on (11 R173). -/
def Alarms.powerOn : Alarms :=
  { conds := Vector.replicate 20 .none, inPower := false, inShed := false, inZero := false
    inOverdraw := false, tc := none, list := [], pattern := .amberSteady, lit := false
    flash := .stopped }

/-- The event ring unit at power-on (11 R181). -/
def Ring.powerOn : Ring := ⟨0, 0, 0, 0, 0⟩

/-- The state at the deassertion of PWRUP_RESET (02 R39): lines and strap values as given, table memory
untouched, everything else at its power-on value. -/
def State.powerOn (pending : List Instr) (mem : List Host.Cell) (pins : Pins) : State :=
  { pending := pending, mem := mem, pins := pins, ldr := .powerOn, params := .none
    regions := .empty, time := .powerOn, port := .powerOn, tw := .powerOn, bus := .powerOn
    drop := .powerOn, ctl := .powerOn, mast := .powerOn, lic := .powerOn, gov := .powerOn
    zon := .powerOn, fan := .powerOn, mdl := .powerOn, alm := .powerOn, ring := .powerOn }

/-- The lines right after reset: every line deasserted and both straps 0. DESIGN CHOICE, unsafe: the
spec gives no line levels; log 6. -/
def Pins.reset : Pins :=
  { inReset := false, memSel := 0, descSel := 0, runA := false, runB := false, slotPres := 0
    trayPres := 0, modPres := 0, modGood := 0, bypass := false, linkClkLow := false }

/-- The machine right after power-on reset: no command waits and memory lists nothing. -/
def State.reset : State := State.powerOn [] [] Pins.reset

end Sys2Proof.Machine
end

