-- ==== Sys2Proof/Machine/Flags.lean ====
section
/-! DEFINITION. The check computations (CRC-32, CRC-16, CRC-8) and the output lines, which are computed from
the state. -/

namespace Sys2Proof.Machine

/-! ### Checks -/

/-- The four bytes of a word in ascending address (00_scope.md: little-endian). -/
def wordBytes (w : Word) : List Byte :=
  [w.extractLsb' 0 8, w.extractLsb' 8 8, w.extractLsb' 16 8, w.extractLsb' 24 8]

/-- One shift of the reflected CRC-32 register; 0xEDB88320 is 0x04C11DB7 with its bits reversed (02 R29). -/
def crc32Shift (c : Word) : Word :=
  if c.getLsbD 0 then (c >>> 1) ^^^ 0xEDB88320#32 else c >>> 1

/-- Runs the CRC-32 register over a byte, least significant bit first (02 R29). -/
def crc32Byte (c : Word) (b : Byte) : Word :=
  Nat.repeat crc32Shift 8 (c ^^^ b.setWidth 32)

/-- Runs the CRC-32 register over the bytes of a word in ascending address (02 R29, 08 R134). -/
def crc32Word (c : Word) (w : Word) : Word := (wordBytes w).foldl crc32Byte c

/-- The CRC-32 register's start: all ones (02 R29). -/
def crc32Init : Word := 0xFFFFFFFF#32

/-- One shift of the CRC-16 register (05 R82). -/
def crc16Shift (c : BitVec 16) : BitVec 16 :=
  if c.getLsbD 15 then (c <<< 1) ^^^ 0x1021#16 else c <<< 1

/-- Runs the CRC-16 register over a byte, most significant bit first (05 R82). -/
def crc16Byte (c : BitVec 16) (b : Byte) : BitVec 16 :=
  Nat.repeat crc16Shift 8 (c ^^^ (b.setWidth 16 <<< 8))

/-- The CRC-16 of a list of bytes (05 R82). -/
def crc16 (bs : List Byte) : BitVec 16 := bs.foldl crc16Byte 0xFFFF#16

/-- One shift of the CRC-8 register (10 R166). -/
def crc8Shift (c : Byte) : Byte :=
  if c.getLsbD 7 then (c <<< 1) ^^^ 0x07#8 else c <<< 1

/-- Runs the CRC-8 register over a byte, most significant bit first (10 R166). -/
def crc8Byte (c : Byte) (b : Byte) : Byte := Nat.repeat crc8Shift 8 (c ^^^ b)

/-- The CRC-8 of a list of bytes (10 R166). -/
def crc8 (bs : List Byte) : Byte := bs.foldl crc8Byte 0

/-- The bytes of the chassis serial, most significant first (05 R82, 12 section 12.2). -/
def serialBytes (n : BitVec 64) : List Byte :=
  [n.extractLsb' 56 8, n.extractLsb' 48 8, n.extractLsb' 40 8, n.extractLsb' 32 8,
   n.extractLsb' 24 8, n.extractLsb' 16 8, n.extractLsb' 8 8, n.extractLsb' 0 8]

/-- The computed check of a grant body: over the serial and body words 3 to 6 (05 R82). -/
def grantCheck (serial : BitVec 64) (body : List Word) : BitVec 16 :=
  crc16 (serialBytes serial ++ (body.take 4).flatMap wordBytes)

/-- The four bytes the part sends in a poll to link address `a` (10 R165): address with write, page
byte, length byte, address with read. -/
def pollSent (a : BitVec 7) : List Byte :=
  [a ++ 0#1, 0#8, 5#8, a ++ 1#1]

/-! ### What the part puts on the management link (10 R165) -/

/-- The bits of a byte, most significant first, as every byte goes on the link (10 R165). -/
def linkBits (b : Byte) : List Bool := (List.range 8).map fun n => b.getLsbD (7 - n)

/-- A byte that the part sends, with the acknowledge bit that it reads after it, low where it is acknowledged
(10 R165). -/
def sendByte (ackHigh : Bool) (b : Byte) : List LinkSymbol := (linkBits b).map .send ++ [.receive ackHigh]

/-- A byte that the part reads, with the acknowledge bit that it sends after it (10 R165). -/
def receiveByte (ackHigh : Bool) (b : Byte) : List LinkSymbol := (linkBits b).map .receive ++ [.send ackHigh]

/-- A transaction from its start through the four bytes that the part sends, each acknowledged (10 R165 steps 2
and 3). -/
def linkSent (a : BitVec 7) : List LinkSymbol :=
  .start :: (((pollSent a).take 3).flatMap (sendByte false)
    ++ .repeatedStart :: ((pollSent a).drop 3).flatMap (sendByte false))

/-- The place in `linkSent` of bit `n` of a byte that the part sends; bit 8 is the acknowledge after it. The
repeated start stands before the last byte. -/
def linkBitAt (byte : Fin 4) (n : Nat) : Nat := 1 + 9 * byte.val + n + if byte.val = 3 then 1 else 0

/-- A transaction that ends with its stop: at once after a missing acknowledge, else after five bytes, of which
the part acknowledges the first four (10 R165). -/
def linkTransaction (a : BitVec 7) : PollReply → List LinkSymbol
  | .noAck byte => (linkSent a).take (linkBitAt byte 8) ++ [.receive true, .stop]
  | .bytes lo hi inlet flags check =>
    linkSent a ++ ([lo, hi, inlet, flags].flatMap (receiveByte false) ++ (receiveByte true check ++ [.stop]))

/-- A transaction that loses arbitration, after which the part drives neither line; none where it cannot be lost,
since the bit that the part sends there is 0 (10 R165, R167). -/
def linkLoss (a : BitVec 7) : LinkPoint → Option (List LinkSymbol)
  | .start => some []
  | .repeatedStart => some ((linkSent a).take (linkBitAt 2 8 + 1) ++ [.lost])
  | .bit byte n =>
    if (linkSent a)[linkBitAt byte n.val]? = some (.send true) then
      some ((linkSent a).take (linkBitAt byte n.val) ++ [.lost])
    else none

/-- What the part puts on the link in a recovery: nine pulses and a stop, or nothing where the clock line is held
low, which is the model's choice (10 R168; log 15). -/
def linkRecovery (clkLow : Bool) : List LinkSymbol :=
  if clkLow then [] else List.replicate 9 .pulse ++ [.stop]

/-- The levels at which the part leaves the two link lines, which are open-drain: high where it releases the line
(10 R165). -/
structure LinkLevel where
  clk : Bool
  data : Bool
  deriving DecidableEq, Repr

/-- The levels of a symbol, in turn, where the part has left LINK_DATA at `d` and LINK_CLK released: but in a
condition LINK_DATA changes while LINK_CLK is low, and a bit is its level while LINK_CLK is high (10 R165). -/
def LinkSymbol.levels (d : Bool) : LinkSymbol → List LinkLevel
  | .start => [⟨true, false⟩]
  | .repeatedStart => [⟨false, d⟩, ⟨false, true⟩, ⟨true, true⟩, ⟨true, false⟩]
  | .stop => [⟨false, d⟩, ⟨false, false⟩, ⟨true, false⟩, ⟨true, true⟩]
  | .send high => [⟨false, d⟩, ⟨false, high⟩, ⟨true, high⟩]
  | .receive _ => [⟨false, d⟩, ⟨false, true⟩, ⟨true, true⟩]
  | .pulse => [⟨false, d⟩, ⟨false, true⟩, ⟨true, true⟩]
  | .lost => [⟨false, d⟩, ⟨false, true⟩, ⟨true, true⟩]

/-- The level at which a symbol leaves LINK_DATA. -/
def LinkSymbol.leaves : LinkSymbol → Bool
  | .start => false
  | .repeatedStart => false
  | .send high => high
  | .stop => true
  | .receive _ => true
  | .pulse => true
  | .lost => true

/-- The levels of a transaction, symbol by symbol. -/
def linkLevels (d : Bool) : List LinkSymbol → List LinkLevel
  | [] => []
  | x :: rest => x.levels d ++ linkLevels x.leaves rest

/-- The levels at which the part holds the link lines between its events: released, unless a transaction has
begun (10 R161, R165). -/
def linkRest (wire : List LinkSymbol) : LinkLevel := (linkLevels true wire).getLast?.getD ⟨true, true⟩

/-! ### Output lines -/

/-- The lines the part drives (00_scope.md, Signal summary). -/
structure Lines where
  tvalid : Bool
  /-- Duty of PWM[0..3] in percent. -/
  pwm : Vector Nat 4
  almMinor : Bool
  almMajor : Bool
  almCrit : Bool
  almSound : Bool
  indGreen : Bool
  indRed : Bool
  /-- Brightness of a lit indicator line, in eighths. -/
  brightness : Nat
  attnA : Bool
  attnB : Bool
  /-- LINK_CLK and LINK_DATA (10 R165). -/
  link : LinkLevel
  deriving DecidableEq, Repr

/-- The lines outside SUPERVISING (02 R24), which also hold while PWRUP_RESET is asserted (R39), with the link
lines released (10 R161). -/
def Lines.transparent : Lines :=
  { tvalid := false, pwm := Vector.replicate 4 100, almMinor := false, almMajor := false
    almCrit := false, almSound := false, indGreen := true, indRed := true, brightness := 8
    attnA := false, attnB := false, link := ⟨true, true⟩ }

/-- Whether the alarm list holds an entry of a severity (11 R178). -/
def holdsSeverity (l : List AlarmEntry) (v : Severity) : Bool := l.any fun e => e.severity == v

/-- ALM_SOUND: an unacknowledged entry of severity MAJOR or CRITICAL (11 R178). -/
def soundDue (l : List AlarmEntry) : Bool :=
  l.any fun e => (e.severity == .major || e.severity == .critical) && !e.acked

/-- The indicator pattern that a list calls for (11 R179). -/
def patternOf (l : List AlarmEntry) : Pattern :=
  if holdsSeverity l .critical then .redFlash
  else if l.any (fun e => e.severity != .none && !e.acked) then .amberFlash
  else if l.isEmpty then .greenSteady else .amberSteady

/-- Ticks of one phase of a pattern; a steady pattern has none (11 R179). -/
def patternPhase : Pattern → Timer
  | .redFlash => .running Config.redPhase
  | .amberFlash => .running Config.amberPhase
  | .greenSteady => .stopped
  | .amberSteady => .stopped

/-- Whether IND_GREEN is lit in a pattern and phase (11 R179). -/
def greenLit (p : Pattern) (lit : Bool) : Bool :=
  match p with
  | .redFlash => false
  | .amberFlash => lit
  | .amberSteady => true
  | .greenSteady => true

/-- Whether IND_RED is lit in a pattern and phase (11 R179). -/
def redLit (p : Pattern) (lit : Bool) : Bool :=
  match p with
  | .redFlash => lit
  | .amberFlash => lit
  | .amberSteady => true
  | .greenSteady => false

/-- ATTN_A and ATTN_B: the published producer differs from the consumer copy (11 R183). -/
def attn (s : State) : Bool := s.ring.published != s.ring.consumer

/-- The lines in SUPERVISING (02 R24, 09 R154, 11 R178, R179, R183). -/
def supervisingLines (s : State) : Lines :=
  { tvalid := s.ldr.tvalid
    pwm := ⟨#[s.fan.trays[0].duty, s.fan.trays[1].duty, s.fan.trays[2].duty, s.fan.trays[3].duty], rfl⟩
    almMinor := holdsSeverity s.alm.list .minor
    almMajor := holdsSeverity s.alm.list .major
    almCrit := holdsSeverity s.alm.list .critical
    almSound := soundDue s.alm.list
    indGreen := greenLit s.alm.pattern s.alm.lit
    indRed := redLit s.alm.pattern s.alm.lit
    brightness := s.params.brightness
    attnA := attn s
    attnB := attn s
    link := linkRest s.mdl.wire }

/-- The lines outside SUPERVISING, where an attempt left over by a closing may still be on the link
(02 R24, 10 R169). -/
def outsideLines (s : State) : Lines := { Lines.transparent with link := linkRest s.mdl.wire }

/-- The lines the part drives in a state (02 R24, R39). -/
def lines (s : State) : Lines :=
  if s.pins.inReset then .transparent
  else match s.ldr.op with
    | .supervising => supervisingLines s
    | .transparent => outsideLines s
    | .loading => outsideLines s

end Sys2Proof.Machine
end

