-- ==== Sys2Proof/Machine/Operands.lean ====
section
/-! DEFINITION. The memory formats (12): codes, addresses of words, and the memory image of every word the
part publishes. -/

namespace Sys2Proof.Machine

/-! ### Bit fields -/

/-- The unsigned field of `len` bits at bit `lo` of a word. -/
def field (w : Word) (lo len : Nat) : Nat := (w.extractLsb' lo len).toNat

/-- The two's complement field of 8 bits at bit `lo`. -/
def signedByte (w : Word) (lo : Nat) : Int := (w.extractLsb' lo 8).toInt

/-- A word holding `v` in the field of `len` bits at bit `lo`, zeros elsewhere (12 R185). -/
def place (lo len v : Nat) : Word := BitVec.ofNat 32 (v % 2 ^ len) <<< lo

/-- A word holding one flag at bit `lo`. -/
def placeBit (lo : Nat) (b : Bool) : Word := place lo 1 b.toNat

/-- A temperature as its 8-bit two's complement pattern. -/
def tempBits (t : Int) : Nat := (BitVec.ofInt 8 t).toNat

/-! ### Codes (12 section 12.1) -/

def Side.code : Side → Nat
  | .a => 1
  | .b => 2

/-- NONE is 0, A 1, B 2. -/
def masterCode : Option Side → Nat
  | none => 0
  | some d => Side.code d

def Verdict.code : Verdict → Nat
  | .none => 0
  | .loading => 1
  | .accepted => 2
  | .badCrc => 3
  | .badVersion => 4
  | .badRegion => 5
  | .badCurve => 6
  | .badLimit => 7
  | .descriptorChanged => 8
  | .memoryError => 9

def RecState.code : RecState → Nat
  | .idle => 0
  | .running => 1
  | .done => 2

def Outcome.code : Outcome → Nat
  | .none => 0
  | .done => 1
  | .withdrawn => 2
  | .abortedRestart => 3
  | .abortedEdit => 4
  | .abandoned => 5
  | .abandonedMastership => 6
  | .memoryError => 7
  | .badCount => 8
  | .overrun => 9
  | .zoneOrder => 10
  | .memberRange => 11
  | .memberOrder => 12
  | .memberCount => 13
  | .tooManyMembers => 14
  | .badField => 15
  | .badCheck => 16
  | .duplicate => 17

def RefuseReason.code : RefuseReason → Nat
  | .none => 0
  | .notActive => 1
  | .busy => 2
  | .badCode => 3
  | .suspended => 4
  | .nothingSuspended => 5
  | .noStandby => 6
  | .slotOccupied => 7
  | .slotEmpty => 8
  | .notRaised => 9

def DropReason.code : DropReason → Nat
  | .standby => 0
  | .noMaster => 1
  | .partOwned => 2
  | .stagingSuspended => 3
  | .lockedDescriptor => 4
  | .partialRequest => 5

def SlotState.code : SlotState → Nat
  | .empty => 0
  | .installing => 1
  | .active => 2
  | .expired => 3
  | .rejected => 4

def PortReason.code : PortReason → Nat
  | .none => 0
  | .notRequested => 1
  | .slotEmpty => 2
  | .thermal => 3
  | .unlicensed => 4
  | .power => 5
  | .shed => 6

def LicSource.code : LicSource → Nat
  | .none => 0
  | .base => 1
  | .group => 2
  | .pool => 3

def HeaderState.code : HeaderState → Nat
  | .blank => 0
  | .staged => 1
  | .valid => 2
  | .invalid => 3
  | .stale => 4

def ZonState.code : ZonState → Nat
  | .idle => 0
  | .validating => 1
  | .marking => 2
  | .flipping => 3
  | .suspended => 4
  | .cloning => 5

def Severity.code : Severity → Nat
  | .none => 0
  | .minor => 1
  | .major => 2
  | .critical => 3

def RotorState.code : RotorState → Nat
  | .absent => 0
  | .spinup => 1
  | .ok => 2
  | .slow => 3
  | .stalled => 4

def TrayState.code : TrayState → Nat
  | .absent => 0
  | .ok => 1
  | .degraded => 2
  | .failed => 3

def ModState.code : ModState → Nat
  | .absent => 0
  | .healthy => 1
  | .degraded => 2
  | .failed => 3

def Validity.code : Validity → Nat
  | .none => 0
  | .valid => 1
  | .stale => 2

def LinkOutcome.code : LinkOutcome → Nat
  | .none => 0
  | .ok => 1
  | .noAck => 2
  | .badCheck => 3
  | .arbLost => 4
  | .deferred => 5
  | .stuck => 6

def MastCause.code : MastCause → Nat
  | .expiry => 1
  | .runLost => 2
  | .release => 3
  | .claim => 4

def GrantKind.code : GrantKind → Nat
  | .group => 1
  | .pool => 2

/-- 12 section 12.8, kind 10. -/
def HoldCause.code : HoldCause → Nat
  | .tray t => t.val
  | .recovery => 4
  | .critical => 5
  | .criticalEnd => 6

/-- Event kinds (11 section 11.6). -/
inductive Kind where
  | descriptorTaken | mastership | grantInstalled | grantRejected | grantExpired | grantRemoved
  | poolRevoked | shed | restored | thermalHold | commitDone | commitFailed | commitSuspended
  | cloneDone | cloneFailed | alarmRaised | alarmChanged | alarmCleared | lockOverrun
  | moduleState | trayState
  deriving DecidableEq, Repr

/-- Kind numbers, which are also the numbers of the mask bits (11 section 11.6). -/
def Kind.code : Kind → Nat
  | .descriptorTaken => 1
  | .mastership => 2
  | .grantInstalled => 3
  | .grantRejected => 4
  | .grantExpired => 5
  | .grantRemoved => 6
  | .poolRevoked => 7
  | .shed => 8
  | .restored => 9
  | .thermalHold => 10
  | .commitDone => 11
  | .commitFailed => 12
  | .commitSuspended => 13
  | .cloneDone => 14
  | .cloneFailed => 15
  | .alarmRaised => 16
  | .alarmChanged => 17
  | .alarmCleared => 18
  | .lockOverrun => 19
  | .moduleState => 20
  | .trayState => 21

/-! ### Addresses -/

/-- The memory size of the straps, in bytes (02 R23). -/
def memSize (pins : Pins) : Nat := 2097152 * 2 ^ pins.memSel.toNat

/-- The descriptor base of the straps (02 R23). -/
def descBase (pins : Pins) : Nat := memSize pins * (pins.descSel.toNat + 1) / 4 - 512

/-- The address of word `n` from a base (12). -/
def wordAt (base n : Nat) : Nat := base + 4 * n

/-- A region that holds at least one address (01 R2). -/
def Region.present (r : Region) : Bool := r.base != r.limit

/-- Whether an address lies in a region (01 R2). -/
def Region.holds (r : Region) (a : Nat) : Bool := r.base ≤ a && a < r.limit

/-- The address of word `i` (0 request, 1 status, 2 refused) of a control record (12 section 12.3). -/
def ctlAddr (r : Regions) (c : CtlId) (i : Nat) : Nat :=
  match c with
  | .mastership => wordAt r.ccp.base i
  | .zoning => wordAt r.ccp.base (4 + i)
  | .restart => wordAt r.ccp.base (8 + i)
  | .alarmAck => wordAt r.ccp.base (12 + i)
  | .slot k => wordAt r.lsa.base (8 * k.val + i)

/-- The base of a zone bank. -/
def bankBase (r : Regions) (b : Fin 2) : Nat := if b = 0 then r.zb0.base else r.zb1.base

/-- The bank the live word does not name (01 R12). -/
def otherBank (b : Fin 2) : Fin 2 := if b = 0 then 1 else 0

/-- The base of the staging bank (01 R12). -/
def stagingBase (s : State) : Nat := bankBase s.regions (otherBank s.zon.liveBank)

/-- The words of a zone bank, B of 08 R125. -/
def bankWords (s : State) : Nat := (s.regions.zew.limit - s.regions.zew.base) / 4

/-! ### Images -/

/-- The verdict word (12 section 12.2, word 1). -/
def verdictWord (v : Verdict) (clamps detail : Nat) : Word :=
  place 0 8 v.code ||| place 8 8 clamps ||| place 16 16 detail

/-- The live word (12 section 12.3, word 26). -/
def liveWord (bank : Fin 2) (gen : BitVec 16) : Word :=
  place 0 8 bank.val ||| place 16 16 gen.toNat

/-- Header word 1 of a zone bank (12 section 12.6). -/
def headerWord (h : HeaderState) (cause : Outcome) (index : Nat) : Word :=
  place 0 4 h.code ||| place 8 8 cause.code ||| place 16 16 index

/-- A control record. -/
def ctlRec (c : Ctls) : CtlId → CtlRec
  | .mastership => c.mastership
  | .zoning => c.zoning
  | .restart => c.restart
  | .alarmAck => c.alarmAck
  | .slot k => c.slots[k]

/-- The slot state that a control record's status word shows: 0 on the records of CCP (12 R185). -/
def ctlSlotCode (s : State) : CtlId → Nat
  | .slot k => (s.lic.slots[k]).state.code
  | .mastership => 0
  | .zoning => 0
  | .restart => 0
  | .alarmAck => 0

/-- The status word of a control record (12 section 12.3). -/
def statusWord (s : State) (c : CtlId) : Word :=
  let r := ctlRec s.ctl c
  place 0 4 r.state.code ||| place 4 4 (ctlSlotCode s c) ||| place 8 8 r.outcome.code
    ||| place 16 16 r.detail.toNat

/-- The refused word of a control record (12 section 12.3). -/
def refusedWord (s : State) (c : CtlId) : Word :=
  let r := ctlRec s.ctl c
  place 0 8 r.refusedReason.code ||| place 16 16 r.refusedTag.toNat

/-- The mastership status word (12 section 12.3, word 29). -/
def mastershipWord (m : Mastership) : Word :=
  place 0 8 (masterCode m.master) ||| placeBit 8 m.eligible ||| place 16 16 m.generation.toNat

/-- The status bytes of a port, in bits 31:16 of its PCT word (12 section 12.4). -/
def portWord (g : Governor) (p : Port) : Word :=
  let e := g.ports[p]
  placeBit 16 e.effective ||| place 17 3 e.reason.code ||| place 20 2 e.source.code
    ||| placeBit 22 (g.held.contains p)

/-- Word `n` of the zoning result words, n in 16..19 (08 R145). -/
def resultWord (r : ZonResults) (n : Nat) : Word :=
  if n = 16 then BitVec.ofNat 32 r.masked
  else if n = 17 then BitVec.ofNat 32 r.empty
  else if n = 18 then r.generation.setWidth 32
  else BitVec.ofNat 32 r.total

/-- The live word as the entry publication writes it (02 R36). -/
def publishedLiveWord (z : Zoning) : Word := z.lastLive.getD (liveWord z.liveBank z.liveGen)

/-- A Tc and whether it is known, as its fields: zeros while unknown (12 R185). -/
def tcBits : Option Int → Nat
  | none => 0
  | some t => tempBits t

/-- Words 0 and 1 of a tray record (12 section 12.7). -/
def trayWord0 (s : State) (t : TrayIx) : Word :=
  let y := s.fan.trays[t]
  let r0 := s.fan.rotors[(⟨2 * t.val, by omega⟩ : RotorIx)]
  let r1 := s.fan.rotors[(⟨2 * t.val + 1, by omega⟩ : RotorIx)]
  placeBit 0 (s.pins.trayPres.getLsbD t.val) ||| place 4 4 y.state.code ||| place 8 8 y.duty
    ||| place 16 4 r0.state.code ||| place 20 4 r1.state.code

def trayWord1 (s : State) (t : TrayIx) : Word :=
  let r0 := s.fan.rotors[(⟨2 * t.val, by omega⟩ : RotorIx)]
  let r1 := s.fan.rotors[(⟨2 * t.val + 1, by omega⟩ : RotorIx)]
  place 0 16 r0.filtered ||| place 16 16 r1.filtered

/-- Words 0 and 1 of a module record (12 section 12.7). -/
def moduleWord0 (s : State) (i : ModIx) : Word :=
  let m := s.mdl.mods[i]
  placeBit 0 m.pres.level ||| placeBit 1 m.good.level ||| place 4 4 m.state.code
    ||| place 8 4 m.validity.code ||| place 12 4 m.last.code ||| place 16 8 m.failures

/-- A report that is STALE with no reading has none to show: its power and inlet fields are the free value
that the report took when it became STALE, and its flags are clear (10 R166; log 40). -/
def moduleWord1 (s : State) (i : ModIx) : Word :=
  match (s.mdl.mods[i]).reading with
  | none =>
    if (s.mdl.mods[i]).validity = .stale then
      (Config.unreadReading i.val (s.mdl.mods[i]).unread).setWidth 32
    else 0
  | some r => place 0 16 r.power ||| place 16 8 (tempBits r.inlet) ||| placeBit 24 r.inputLost
      ||| placeBit 25 r.overtemp ||| placeBit 26 r.fanFault

/-- Words 16 and 17 of ESA, the fan record (12 section 12.7). -/
def fanWord0 (f : Fans) : Word :=
  place 0 8 f.target ||| place 8 8 (tcBits f.tc) ||| placeBit 16 f.tc.isSome
    ||| placeBit 17 f.critHold

def fanWord1 (f : Fans) : Word :=
  place 0 8 f.holdSet.toNat ||| placeBit 8 (f.trays[0]).hold ||| placeBit 9 (f.trays[1]).hold
    ||| placeBit 10 (f.trays[2]).hold ||| placeBit 11 (f.trays[3]).hold

/-- Word `k` (0 is the count, then two words a slot) of the alarm list's image (11 R180). -/
def alarmWord (l : List AlarmEntry) (k : Nat) : Word :=
  if k = 0 then BitVec.ofNat 32 l.length
  else match l[(k - 1) / 2]? with
    | none => 0
    | some e =>
      if k % 2 = 1 then place 0 8 e.source.val ||| place 8 2 e.severity.code ||| placeBit 15 e.acked
      else e.raised

/-- Words 0..3 of ESA, the drop record. -/
def dropWord (d : DropRecord) (n : Nat) : Word :=
  if n = 0 then place 0 16 d.count
  else if n = 1 then place 0 24 d.addr
  else if n = 2 then place 0 8 (Side.code d.side)
  else place 0 8 d.reason.code

/-- Words 4..10 of ESA, the budget record (06 R102). -/
def budgetWord (g : Governor) (n : Nat) : Word :=
  BitVec.ofNat 32 <|
    if n = 4 then g.available
    else if n = 5 then g.fixedLoad
    else if n = 6 then g.fanLoad
    else if n = 7 then g.headroom
    else if n = 8 then g.committed
    else if n = 9 then g.heldPower
    else g.heldShed

/-- Words 11..13 of ESA, the licence summary (05 R91). -/
def licenceWord (l : LicSummary) (n : Nat) : Word :=
  BitVec.ofNat 32 (if n = 11 then l.total else if n = 12 then l.assigned else l.heldUnlicensed)

/-- The code of a suspended stage: 0 when none (12 section 12.7). -/
def stageCode : Option ZonState → Nat
  | none => 0
  | some z => z.code

/-- Words 14 and 15 of ESA, the zoning record (08 R127). -/
def zoningWord (z : Zoning) (n : Nat) : Word :=
  if n = 14 then place 0 8 z.op.code ||| place 8 8 (stageCode z.susp) ||| place 16 8 z.liveBank.val
  else place 0 16 z.liveGen.toNat ||| place 16 16 z.entryIx

/-- Words 34..36 of ESA, the link record (10 R172). -/
def linkWord (m : Modules) (n : Nat) : Word :=
  if n = 34 then place 0 8 (tcBits m.tc) ||| placeBit 8 m.tc.isSome ||| placeBit 9 m.overdraw
  else if n = 35 then BitVec.ofNat 32 m.reportedSum
  else BitVec.ofNat 32 m.available

/-- Word `n` of ESA (12 section 12.7). -/
def esaWord (s : State) (n : Nat) : Word :=
  if n < 4 then dropWord s.drop n
  else if n < 11 then budgetWord s.gov n
  else if n < 14 then licenceWord s.lic.summary n
  else if n < 16 then zoningWord s.zon n
  else if n = 16 then fanWord0 s.fan
  else if n = 17 then fanWord1 s.fan
  else if n < 26 then
    let t : TrayIx := Fin.ofNat 4 ((n - 18) / 2)
    if n % 2 = 0 then trayWord0 s t else trayWord1 s t
  else if n < 34 then
    let i : ModIx := Fin.ofNat 4 ((n - 26) / 2)
    if n % 2 = 0 then moduleWord0 s i else moduleWord1 s i
  else if n < 37 then linkWord s.mdl n
  else if n < 78 then alarmWord s.alm.list (n - 37)
  else 0

/-- Word `n` of CCP as the part writes it in the entry publication (01 R10, 02 R36). -/
def ccpWord (s : State) (n : Nat) : Word :=
  if n = 1 then statusWord s .mastership
  else if n = 2 then refusedWord s .mastership
  else if n = 5 then statusWord s .zoning
  else if n = 6 then refusedWord s .zoning
  else if n = 9 then statusWord s .restart
  else if n = 10 then refusedWord s .restart
  else if n = 13 then statusWord s .alarmAck
  else if n = 14 then refusedWord s .alarmAck
  else if 16 ≤ n ∧ n ≤ 19 then resultWord s.zon.results n
  else if n = 26 then publishedLiveWord s.zon
  else if n = 27 then BitVec.ofNat 32 s.ring.producer
  else if n = 28 then BitVec.ofNat 32 s.ring.consumer
  else if n = 29 then mastershipWord s.mast
  else 0

/-! ### Records -/

/-- One word of a published record: where it goes, its value, and the bytes written. -/
structure RecWord where
  target : Nat
  value : Word
  mask : BitVec 4
  deriving DecidableEq, Repr

/-- A word written in full (12 R185). -/
def fullWord (target : Nat) (value : Word) : RecWord := ⟨target, value, 0b1111⟩

/-- The ESA words `from .. from + n - 1`. -/
def esaWords (s : State) (start n : Nat) : List RecWord :=
  (List.range n).map fun k => fullWord (wordAt s.regions.esa.base (start + k)) (esaWord s (start + k))

/-- The words of a record, with the values the owning unit holds (03 R55, 12). -/
def recordWords (s : State) : RecordId → List RecWord
  | .drop => esaWords s 0 4
  | .budget => esaWords s 4 7
  | .licence => esaWords s 11 3
  | .zoning => esaWords s 14 2
  | .fan => esaWords s 16 2
  | .tray t => esaWords s (18 + 2 * t.val) 2
  | .module i => esaWords s (26 + 2 * i.val) 2
  | .link => esaWords s 34 3
  | .alarms => esaWords s 37 41
  | .mastership => [fullWord (wordAt s.regions.ccp.base 29) (mastershipWord s.mast)]
  | .results => [16, 17, 18, 19].map fun n =>
      fullWord (wordAt s.regions.ccp.base n) (resultWord s.zon.results n)
  | .ctlStatus c => [fullWord (ctlAddr s.regions c 1) (statusWord s c)]
  | .ctlRefused c => [fullWord (ctlAddr s.regions c 2) (refusedWord s c)]
  | .port p => [⟨wordAt s.regions.pct.base p.val, portWord s.gov p, 0b1100⟩]

/-- The unit that owns a record (03 R50, Origin). -/
def recordOrigin : RecordId → Origin
  | .drop => .classifier
  | .budget => .governor
  | .licence => .licence
  | .zoning => .zoning
  | .fan => .fan
  | .tray _ => .fan
  | .module _ => .module
  | .link => .module
  | .alarms => .alarm
  | .mastership => .mastership
  | .results => .zoning
  | .ctlStatus (.slot k) => .install k
  | .ctlRefused (.slot k) => .install k
  | .ctlStatus .mastership => .mastership
  | .ctlRefused .mastership => .mastership
  | .ctlStatus .zoning => .zoning
  | .ctlRefused .zoning => .zoning
  | .ctlStatus .restart => .restart
  | .ctlRefused .restart => .restart
  | .ctlStatus .alarmAck => .alarm
  | .ctlRefused .alarmAck => .alarm
  | .port _ => .governor

end Sys2Proof.Machine
end

