-- ==== Sys2Proof/Machine/Ops.lean ====
section
/-! DEFINITION. The named operations over table memory, the write queue, internal reads, the event ring,
the control records and the drop record, which every unit's meanings share. -/

namespace Sys2Proof.Machine

/-! ### Table memory: a list of (address, byte) in one canonical form -/

/-- The byte at an address; an unlisted address reads as `Config.unwrittenByte` (log 7). -/
def Mem.read : List Host.Cell → Nat → Byte
  | [], _ => Config.unwrittenByte
  | (x, v) :: t, a => if x = a then v else Mem.read t a

/-- Writes one byte, keeping addresses rising and listing no byte equal to the unwritten one. -/
def Mem.write (a : Nat) (b : Byte) : List Host.Cell → List Host.Cell
  | [] => if b = Config.unwrittenByte then [] else [(a, b)]
  | (x, v) :: t =>
    if a < x then (if b = Config.unwrittenByte then (x, v) :: t else (a, b) :: (x, v) :: t)
    else if a = x then (if b = Config.unwrittenByte then t else (a, b) :: t)
    else (x, v) :: Mem.write a b t

/-- Whether every listed address is above `lo` and the list rises, with no unwritten byte listed. -/
def Mem.wfAbove : Option Nat → List Host.Cell → Bool
  | _, [] => true
  | lo, (x, v) :: t =>
    (match lo with | none => true | some l => decide (l < x))
      && decide (v ≠ Config.unwrittenByte) && Mem.wfAbove (some x) t

/-- The canonical form of table memory. -/
def Mem.wf (m : List Host.Cell) : Bool := Mem.wfAbove none m

/-- The little-endian word at an address. -/
def Mem.readWord (m : List Host.Cell) (a : Nat) : Word :=
  Mem.read m (a + 3) ++ Mem.read m (a + 2) ++ Mem.read m (a + 1) ++ Mem.read m a

/-- Writes byte `n` of a word if its enable is set. -/
def Mem.writeLane (a : Nat) (v : Word) (mask : BitVec 4) (n : Nat) (m : List Host.Cell) : List Host.Cell :=
  if mask.getLsbD n then Mem.write (a + n) (v.extractLsb' (8 * n) 8) m else m

/-- Writes the enabled bytes of a word (03 R51). -/
def Mem.writeWord (a : Nat) (v : Word) (mask : BitVec 4) (m : List Host.Cell) : List Host.Cell :=
  Mem.writeLane a v mask 3 (Mem.writeLane a v mask 2 (Mem.writeLane a v mask 1 (Mem.writeLane a v mask 0 m)))

/-! ### Timers (02 R40) -/

/-- Whether a timer is running; one whose expiry is still to be taken is not yet stopped (log 2). -/
def Timer.isRunning : Timer → Bool
  | .stopped => false
  | .running _ => true
  | .expired => true

/-- Takes one tick from a timer. -/
def Timer.tick : Timer → Timer
  | .stopped => .stopped
  | .running n => if n ≤ 1 then .expired else .running (n - 1)
  | .expired => .expired

/-! ### The write queue (03 R50 to R56) -/

/-- Whether an entry is one that URGENT and STATUS values for `target` coalesce into (03 R52). -/
def Entry.coalesces (e : Entry) (target : Nat) : Bool :=
  e.target == target && (e.cls == .urgent || e.cls == .status)

/-- An entry after a newer value has coalesced into it (03 R52). -/
def Entry.replace (e : Entry) (cls : EntryClass) (value : Word) (mask : BitVec 4) : Entry :=
  { e with value := value, mask := mask, cls := if cls = .urgent then .urgent else e.cls }

/-- Removes the NORMAL entries that a newer value for the same target and mask stands in for (03 R53). -/
def supersede (target : Nat) (mask : BitVec 4) (q : List Entry) : List Entry :=
  q.filter fun e => !(e.cls == .normal && e.target == target && e.mask == mask)

/-- Whether a value that needs an entry of its own has to wait: no entry is free, or earlier values
wait (03 R54, R56; log 22). -/
def TableWriter.full (t : TableWriter) : Bool :=
  decide (Config.queuePlaces ≤ t.queue.length) || !t.waiting.isEmpty

/-- Whether the queue holds an entry that a value for `target` coalesces into. -/
def TableWriter.holdsFor (t : TableWriter) (target : Nat) : Bool := t.queue.any (·.coalesces target)

/-- Coalesces a value into the queued entry for its target (03 R52, R53). -/
def TableWriter.coalesce (t : TableWriter) (cls : EntryClass) (w : RecWord) : TableWriter :=
  let q := t.queue.map fun e => if e.coalesces w.target then e.replace cls w.value w.mask else e
  { t with queue := supersede w.target w.mask q }

/-- A new entry joins the tail (03 R50); an URGENT or STATUS one supersedes (03 R53). -/
def TableWriter.join (t : TableWriter) (e : Entry) : TableWriter :=
  let q := if e.cls = .urgent ∨ e.cls = .status then supersede e.target e.mask t.queue else t.queue
  { t with queue := q ++ [e] }

/-- Gives the next serial number to a new entry. -/
def TableWriter.fresh (t : TableWriter) (cls : EntryClass) (o : Origin) (w : RecWord) : Entry :=
  { id := t.nextId, target := w.target, value := w.value, mask := w.mask, cls := cls, origin := o }

/-- Counts a serial number as used. -/
def TableWriter.bump (t : TableWriter) : TableWriter := { t with nextId := t.nextId + 1 }

/-- Whether a producer already holds a waiting value for a target and mask (03 R54). -/
def Waiter.holdsFor (w : RecWord) : Waiter → Bool
  | .value e => e.target == w.target && e.mask == w.mask
  | .record _ _ => false
  | .publication => false

/-- A waiting value replaced by a newer one; the class is URGENT if either was (03 R54). -/
def Waiter.replace (cls : EntryClass) (w : RecWord) : Waiter → Waiter
  | .value e =>
    if e.target == w.target && e.mask == w.mask then
      .value { e with value := w.value, cls := if e.cls = .urgent then .urgent else cls }
    else .value e
  | .record r n => .record r n
  | .publication => .publication

/-- Whether a record is marked publish-pending (03 R55). -/
def TableWriter.marked (t : TableWriter) (r : RecordId) : Bool :=
  t.waiting.any fun x => match x with
    | .record q _ => q == r
    | .value _ => false
    | .publication => false

/-- A publish-pending record has one more word to queue, unless it is still to queue that word: a word
it has queued already must reach memory with its newer value too (03 R55; log 23). -/
def Waiter.addWord (r : RecordId) (target : Nat) : Waiter → Waiter
  | .record q left =>
    if q = r ∧ target ∉ left then .record q (left ++ [target]) else .record q left
  | .value e => .value e
  | .publication => .publication

/-- A value that found no room: an URGENT one waits at its producer; a STATUS one marks its record
publish-pending, with every word of `targets` to queue, or is left to the mark that stands (03 R54,
R55). -/
def TableWriter.wait (t : TableWriter) (cls : EntryClass) (r : RecordId) (targets : List Nat)
    (w : RecWord) : TableWriter :=
  if cls = .urgent then
    TableWriter.bump
      { t with waiting := t.waiting ++ [Waiter.value (t.fresh cls (recordOrigin r) w)] }
  else if t.marked r then { t with waiting := t.waiting.map (Waiter.addWord r w.target) }
  else { t with waiting := t.waiting ++ [Waiter.record r targets] }

/-- Hands the table writer one word of a record, whose words have the addresses `targets`, as an URGENT
or STATUS value (03 R52 to R55). -/
def TableWriter.put (cls : EntryClass) (r : RecordId) (targets : List Nat) (t : TableWriter)
    (w : RecWord) : TableWriter :=
  if t.holdsFor w.target then t.coalesce cls w
  else if t.waiting.any (Waiter.holdsFor w) then
    { t with waiting := t.waiting.map (Waiter.replace cls w) }
  else if t.full then t.wait cls r targets w
  else (t.join (t.fresh cls (recordOrigin r) w)).bump

/-- Hands the table writer a NORMAL value: it takes an entry of its own or waits (03 R52, R54). -/
def TableWriter.putNormal (t : TableWriter) (o : Origin) (w : RecWord) : TableWriter :=
  if t.full then
    TableWriter.bump { t with waiting := t.waiting ++ [Waiter.value (t.fresh .normal o w)] }
  else (t.join (t.fresh .normal o w)).bump

/-- Whether an event append finds five free entries (03 R56). -/
def TableWriter.hasAppendRoom (t : TableWriter) : Bool :=
  t.waiting.isEmpty && decide (t.queue.length + Config.appendPlaces ≤ Config.queuePlaces)

/-- Queues one EVENT entry (03 R56). -/
def TableWriter.putEvent (t : TableWriter) (w : RecWord) : TableWriter :=
  (t.join (t.fresh .event .ring w)).bump

/-- The addresses of a record's words. -/
def recordTargets (s : State) (r : RecordId) : List Nat := (recordWords s r).map (·.target)

/-- Publishes a record: hands every word of it to the table writer (03 R55). -/
def publish (cls : EntryClass) (r : RecordId) (s : State) : State :=
  s.setTw ((recordWords s r).foldl (TableWriter.put cls r (recordTargets s r)) s.tw)

/-- Publishes a record, as STATUS entries, when its image differs from the one in an earlier state. -/
def publishIfChanged (r : RecordId) (former s : State) : State :=
  if recordWords s r = recordWords former r then s else publish .status r s

/-- Publishes those of the record's words that differ from an earlier list of its words. -/
def publishChanged (r : RecordId) (before : List RecWord) (s : State) : State :=
  s.setTw (((recordWords s r).zip before).foldl
    (fun t p => if p.1 = p.2 then t else t.put .status r (recordTargets s r) p.1) s.tw)

/-- Queues a NORMAL value. -/
def putNormal (o : Origin) (target : Nat) (value : Word) (s : State) : State :=
  s.setTw (s.tw.putNormal o (fullWord target value))

/-! ### Internal reads (03 R57) -/

/-- An operation wants to read: the read is issued at once, or it joins the waiting list. -/
def askRead (op : ReadOp) (target : Nat) (s : State) : State :=
  if s.tw.read.isNone && s.tw.readList.isEmpty then
    s.setTw { s.tw with read := some ⟨target, some op⟩ }
  else s.setTw { s.tw with readList := s.tw.readList ++ [⟨op, target⟩] }

/-- After a read's data has been handled: the head of the waiting list has its read issued. -/
def issueHead (s : State) : State :=
  match s.tw.read, s.tw.readList with
  | none, r :: rest => s.setTw { s.tw with read := some ⟨r.target, some r.op⟩, readList := rest }
  | _, _ => s

/-- An operation ends: it leaves the waiting list, and its outstanding read is abandoned. -/
def dropReads (op : ReadOp) (s : State) : State :=
  s.setTw { s.tw with
    readList := s.tw.readList.filter fun r => !(r.op == op)
    read := s.tw.read.map fun r => if r.op = some op then { r with op := none } else r }

/-! ### The event ring (11 R181) -/

/-- Whether a kind is masked by the descriptor's event kind mask. -/
def masked (p : Params) (k : Kind) : Bool := p.kindMask.getLsbD k.code

/-- Whether the ring is full (11 R181 step 2). -/
def Ring.isFull (r : Ring) (capacity : Nat) : Bool := (r.producer + 1) % capacity == r.consumer

/-- The five words of an accepted append: the record at the producer index, then the new producer
index (11 R181, 12 section 12.8). -/
def appendWords (s : State) (k : Kind) (w2 w3 : Word) : List RecWord :=
  let base := s.regions.evr.base + 16 * s.ring.producer
  [fullWord (wordAt base 0)
      (place 0 8 k.code ||| place 8 8 s.ring.lost ||| place 16 16 s.ring.seq.toNat),
   fullWord (wordAt base 1) s.time.seconds,
   fullWord (wordAt base 2) w2,
   fullWord (wordAt base 3) w3,
   fullWord (wordAt s.regions.ccp.base 27)
      (BitVec.ofNat 32 ((s.ring.producer + 1) % s.params.ringCapacity))]

/-- A lost append: it takes its sequence and is counted, up to 255. -/
def Ring.lose (r : Ring) : Ring :=
  { r with seq := r.seq + 1, lost := if r.lost < 255 then r.lost + 1 else r.lost }

/-- A unit asks for an event to be appended (11 R181, 03 R56). -/
def appendEvent (k : Kind) (w2 w3 : Word) (s : State) : State :=
  if s.ldr.op ≠ .supervising ∨ s.regions.evr.present = false ∨ masked s.params k = true then s
  else if s.ring.isFull s.params.ringCapacity || !s.tw.hasAppendRoom then s.setRing s.ring.lose
  else
    (s.setTw ((appendWords s k w2 w3).foldl TableWriter.putEvent s.tw)).setRing
      { s.ring with seq := s.ring.seq + 1, lost := 0
                    producer := (s.ring.producer + 1) % s.params.ringCapacity }

/-! ### Control records (01 R20 to R22) -/

/-- Replaces a control record. -/
def Ctls.set (c : Ctls) (r : CtlRec) : CtlId → Ctls
  | .mastership => { c with mastership := r }
  | .zoning => { c with zoning := r }
  | .restart => { c with restart := r }
  | .alarmAck => { c with alarmAck := r }
  | .slot k => { c with slots := upd c.slots k r }

/-- Sets a record's status and publishes its status word in the given class (01 R20, R22). -/
def setStatus (cls : EntryClass) (c : CtlId) (st : RecState) (o : Outcome) (detail : BitVec 16)
    (s : State) : State :=
  publish cls (.ctlStatus c)
    (s.setCtl (s.ctl.set { ctlRec s.ctl c with state := st, outcome := o, detail := detail } c))

/-- A refused request: the tag and the reason go to the refused word (01 R21). -/
def refuse (c : CtlId) (tag : BitVec 16) (reason : RefuseReason) (s : State) : State :=
  publish .status (.ctlRefused c)
    (s.setCtl (s.ctl.set { ctlRec s.ctl c with refusedTag := tag, refusedReason := reason } c))

/-! ### The drop record (01 R16) -/

/-- Enters a dropped word of a write in the drop record. -/
def dropWrite (side : Side) (addr : Nat) (reason : DropReason) (s : State) : State :=
  publish .status .drop (s.setDrop
    { count := if s.drop.count < 65535 then s.drop.count + 1 else s.drop.count
      addr := addr, side := side, reason := reason })

/-! ### Small readings of the state -/

/-- The level of a side's RUN line. -/
def runLine (p : Pins) : Side → Bool
  | .a => p.runA
  | .b => p.runB

/-- Whether the part is SUPERVISING. -/
def supervising (s : State) : Bool := s.ldr.op == .supervising

/-- Whether the part is closing (02 R37). -/
def isClosing (s : State) : Bool := s.ldr.closing.isSome

/-- The heartbeat timer of a side. -/
def Mastership.timer (m : Mastership) : Side → Timer
  | .a => m.timerA
  | .b => m.timerB

/-- Sets the heartbeat timer of a side. -/
def Mastership.setTimer (m : Mastership) (d : Side) (t : Timer) : Mastership :=
  match d with
  | .a => { m with timerA := t }
  | .b => { m with timerB := t }

end Sys2Proof.Machine
end

