-- ==== Sys2Proof/Machine/Alarm.lean ====
section
/-! DEFINITION. The alarm unit (11 R173 to R180) and the module unit's overdraw (10 R171), which it counts. -/

namespace Sys2Proof.Machine

/-- The details word of the ALARM events (12 section 12.8). -/
def alarmDetail (src : Source) (new former : Severity) : Word :=
  place 0 8 src.val ||| place 8 8 new.code ||| place 16 8 former.code

/-- Re-derives the indicator pattern; a changed pattern begins with its lit phase (11 R179). -/
def redrivePattern (a : Alarms) : Alarms :=
  if patternOf a.list = a.pattern then a
  else { a with pattern := patternOf a.list, lit := true, flash := patternPhase (patternOf a.list) }

/-- Publishes the alarm list's changed words and re-derives the indicator (11 R178 to R180). -/
def listChanged (before : List RecWord) (s : State) : State :=
  let s1 := publishChanged .alarms before s
  s1.setAlm (redrivePattern s1.alm)

/-- The list entry of a source. -/
def alarmEntry (l : List AlarmEntry) (src : Source) : Option AlarmEntry :=
  l.find? fun e => e.source == src

/-- An entry updated in place for a new condition (11 R175). -/
def AlarmEntry.update (new : Severity) (e : AlarmEntry) : AlarmEntry :=
  if new = .none then { e with severity := .none, clear := .running Config.clearTicks }
  else { e with severity := new, clear := .stopped
                acked := if e.severity.code < new.code then false else e.acked }

/-- Updates the entry of a source in place. -/
def updateEntry (src : Source) (f : AlarmEntry → AlarmEntry) (l : List AlarmEntry) : List AlarmEntry :=
  l.map fun e => if e.source = src then f e else e

/-- The effect of a changed condition on the list, with the event it appends (11 R175). -/
def listEffect (src : Source) (new : Severity) (s : State) : State :=
  match alarmEntry s.alm.list src with
  | none =>
    if new = .none then s
    else
      appendEvent .alarmRaised (alarmDetail src new .none) 0
        (s.setAlm { s.alm with list := s.alm.list ++ [⟨src, new, s.time.seconds, false, .stopped⟩] })
  | some e =>
    appendEvent .alarmChanged (alarmDetail src new e.severity) 0
      (s.setAlm { s.alm with list := updateEntry src (AlarmEntry.update new) s.alm.list })

/-- A unit hands the alarm unit the condition of a source (11 R174, R175). -/
def setSource (src : Source) (new : Severity) (s : State) : State :=
  if s.alm.conds[src] = new then s
  else listChanged (recordWords s .alarms)
    (listEffect src new (s.setAlm { s.alm with conds := upd s.alm.conds src new }))

/-- The numbers of the sources (11 R174). -/
def rotorSource (r : RotorIx) : Source := ⟨r.val, by omega⟩
def traySource (t : TrayIx) : Source := ⟨8 + t.val, by omega⟩
def moduleSource (i : ModIx) : Source := ⟨12 + i.val, by omega⟩
def thermalSource : Source := 16
def budgetSource : Source := 17
def licenseSource : Source := 18
def mastershipSource : Source := 19

/-- The severity of BUDGET from its four inputs (06 R103, 11 R174). -/
def budgetSeverity (a : Alarms) : Severity :=
  if a.inZero then .critical
  else if a.inShed || a.inOverdraw then .major
  else if a.inPower then .minor
  else .none

/-- The governor hands its three BUDGET conditions (06 R103). -/
def handBudget (power shed zero : Bool) (s : State) : State :=
  let s1 := s.setAlm { s.alm with inPower := power, inShed := shed, inZero := zero }
  setSource budgetSource (budgetSeverity s1.alm) s1

/-- The module unit hands overdraw (10 R171). -/
def handOverdraw (o : Bool) (s : State) : State :=
  let s1 := s.setAlm { s.alm with inOverdraw := o }
  setSource budgetSource (budgetSeverity s1.alm) s1

/-- The severity of THERMAL for a Tc (11 R174). -/
def thermalSeverity (p : Params) : Option Int → Severity
  | none => .minor
  | some t => if p.critical ≤ t then .critical else if p.warn ≤ t then .major else .none

/-- The module unit hands Tc (10 R170). -/
def handAlarmTc (tc : Option Int) (s : State) : State :=
  setSource thermalSource (thermalSeverity s.params tc) (s.setAlm { s.alm with tc := tc })

/-- The severity of LICENSE (05 R91). -/
def licenseSeverity (l : Licence) : Severity :=
  if l.summary.heldUnlicensed ≠ 0 ∨ l.slots.any (fun g => g.state == .expired) = true then .minor
  else .none

/-- The severity of MASTERSHIP (04 R64). -/
def mastershipSeverity (m : Mastership) : Severity :=
  match m.master with
  | none => .critical
  | some _ => if m.eligible then .none else .minor

/-- An entry's clear timer has expired: the entry leaves the list (11 R176). -/
def clearEntry (src : Source) (s : State) : State :=
  match alarmEntry s.alm.list src with
  | some e =>
    if e.clear = .expired then
      listChanged (recordWords s .alarms)
        (appendEvent .alarmCleared (alarmDetail src .none e.severity) 0
          (s.setAlm { s.alm with list := s.alm.list.filter fun x => !(x.source == src) }))
    else s
  | none => s

/-- A flash phase has run out: the lit and dark phases change over (11 R179). -/
def flashPhase (s : State) : State :=
  if s.alm.flash = .expired then
    s.setAlm { s.alm with lit := !s.alm.lit, flash := patternPhase s.alm.pattern }
  else s

/-- Sets acknowledged flags (11 R177). -/
def acknowledge (p : AlarmEntry → Bool) (s : State) : State :=
  listChanged (recordWords s .alarms)
    (s.setAlm { s.alm with list := s.alm.list.map fun e => if p e then { e with acked := true } else e })

/-- The alarm unit's timers take a tick (11 R176, R179). -/
def Alarms.tick (a : Alarms) : Alarms :=
  { a with list := a.list.map (fun e => { e with clear := e.clear.tick }), flash := a.flash.tick }

/-! ### Overdraw (10 R171) -/

/-- Recomputes overdraw; a change is handed to the alarm unit, and then the link record is queued (log 36). -/
def judgeOverdraw (s : State) : State :=
  let o := decide (s.mdl.available < s.mdl.reportedSum)
  if o = s.mdl.overdraw then s
  else publish .status .link (handOverdraw o (s.setMdl { s.mdl with overdraw := o }))

/-- The governor hands the module unit the available power (06 R103, 10 R171, R172); the link record for it is
queued before overdraw is handed on, the model's choice (log 36). -/
def handAvailable (available : Nat) (s : State) : State :=
  if available = s.mdl.available then s
  else judgeOverdraw (publish .status .link (s.setMdl { s.mdl with available := available }))

end Sys2Proof.Machine
end

