-- ==== Sys2Proof/Machine/Governor.lean ====
section
/-! DEFINITION. The port governor: the budget (06 R93 to R103), the port table, the held list and the
settle (07 R104 to R122), with the licence questions it asks (05 R75, R88, R89). -/

namespace Sys2Proof.Machine

/-! ### Licence questions -/

/-- The slot of a port (00_scope.md). -/
def slotOf (p : Port) : SlotIx := ⟨p.val / 48, by omega⟩

/-- The group of a port (00_scope.md). -/
def groupOf (p : Port) : Nat := p.val / 8

/-- The groups that an ACTIVE GROUP grant in a slot licenses (05 R75). -/
def GrantSlot.groups (g : GrantSlot) : BitVec 48 :=
  match g.state, g.grant with
  | .active, some gr => if gr.kind = .group then gr.groups else 0
  | _, _ => 0

/-- The groups licensed by ACTIVE GROUP grants (05 R75). -/
def grantGroups (l : Licence) : BitVec 48 := l.slots.foldl (fun a g => a ||| g.groups) 0

/-- The licensed groups: the base set and those of ACTIVE GROUP grants (05 R75). -/
def licensedGroups (l : Licence) : BitVec 48 := l.base ||| grantGroups l

/-- Whether a port is group-licensed (05 R75). -/
def groupLicensed (l : Licence) (p : Port) : Bool := (licensedGroups l).getLsbD (groupOf p)

/-- The licence source of a port (05 R75). -/
def sourceOf (l : Licence) (p : Port) : LicSource :=
  if l.base.getLsbD (groupOf p) then .base
  else if (grantGroups l).getLsbD (groupOf p) then .group
  else if l.pool.contains p then .pool
  else .none

/-- The pool counts of ACTIVE POOL grants (05 R87). -/
def GrantSlot.poolShare (g : GrantSlot) : Nat :=
  match g.state, g.grant with
  | .active, some gr => if gr.kind = .pool then gr.poolCount else 0
  | _, _ => 0

/-- The pool total (05 R87). -/
def poolTotalOf (l : Licence) : Nat := min 384 (l.slots.foldl (fun a g => a + g.poolShare) 0)

/-! ### The budget figures (06 R94 to R98) -/

/-- A module's contribution (06 R94). -/
def contribution (st : ModState) (capacity : Nat) : Nat :=
  match st with
  | .healthy => capacity
  | .degraded => capacity / 2
  | .failed => 0
  | .absent => 0

/-- The available power from the four contributions (06 R95). -/
def availableOf (r : Redundancy) (c0 c1 c2 c3 : Nat) : Nat :=
  match r with
  | .none => c0 + c1 + c2 + c3
  | .nPlus1 => c0 + c1 + c2 + c3 - max (max c0 c1) (max c2 c3)
  | .grid => min (c0 + c1) (c2 + c3)

/-- The load of one tray (06 R96): maximum watts times duty over 100, rounded up. -/
def trayLoad (present : Bool) (maxWatts duty : Nat) : Nat :=
  if present then (maxWatts * duty + 99) / 100 else 0

/-- The fan load (06 R96). -/
def fanLoadOf (p : Params) (g : Governor) : Nat :=
  (List.finRange 4).foldl
    (fun a t => a + trayLoad (g.trayPresent.getLsbD t.val) (p.trays[t]).maxWatts g.duty[t]) 0

/-- Whether a slot is present and capable. -/
def slotUp (p : Params) (g : Governor) (k : SlotIx) : Bool :=
  g.slotPresent.getLsbD k.val && (p.slots[k]).capable

/-- The card bases of the present, capable slots (06 R97). -/
def cardLoad (p : Params) (g : Governor) : Nat :=
  (List.finRange 8).foldl (fun a k => a + if slotUp p g k then (p.slots[k]).cardBase else 0) 0

/-- The contributions of the four modules. -/
def contribs (p : Params) (g : Governor) : Vector Nat 4 :=
  ⟨#[contribution g.modState[0] (p.mods[0]).capacity, contribution g.modState[1] (p.mods[1]).capacity,
     contribution g.modState[2] (p.mods[2]).capacity, contribution g.modState[3] (p.mods[3]).capacity],
   rfl⟩

/-- Every figure computed afresh from its inputs (06 R94 to R97, R100). -/
def Governor.recompute (p : Params) (g : Governor) : Governor :=
  let cs := contribs p g
  let av := availableOf p.redundancy cs[0] cs[1] cs[2] cs[3]
  let fl := fanLoadOf p g
  let fx := p.chassisBase + cardLoad p g + fl
  { g with contrib := cs, available := av, fanLoad := fl, fixedLoad := fx
           headroom := av - (p.reserve + fx) }

/-- The headroom in deciwatts (06 R97). -/
def Governor.headroomDw (g : Governor) : Nat := g.headroom * 10

/-- Recomputes the figures. -/
def recompute (s : State) : State := s.setGov (s.gov.recompute s.params)

/-- The draw of a port in a slot at a speed code (06 R98). -/
def drawAt (p : Params) (q : Port) (speed : BitVec 2) : Nat :=
  if 2 ≤ speed.toNat then (p.slots[slotOf q]).class2 else (p.slots[slotOf q]).class1

/-- The draw of a port (06 R98). -/
def draw (s : State) (q : Port) : Nat := drawAt s.params q (s.gov.ports[q]).speed

/-! ### Port table -/

/-- Replaces a port table entry. -/
def Governor.setPort (g : Governor) (q : Port) (e : PortEntry) : Governor :=
  { g with ports := upd g.ports q e }

/-- Gives a port a reason and queues its status as STATUS when that changes it (07 R106, R112). -/
def setReason (q : Port) (r : PortReason) (s : State) : State :=
  if (s.gov.ports[q]).reason = r then s
  else publish .status (.port q) (s.setGov (s.gov.setPort q { s.gov.ports[q] with reason := r }))

/-- A port goes OFF with a reason: its draw leaves the committed draw and a pool licence is released
(05 R89, 06 R98). Its status is queued by the caller, once it stands where the event puts it. -/
def turnOff (q : Port) (r : PortReason) (s : State) : State :=
  let e := s.gov.ports[q]
  let src := if e.source = .pool then .none else e.source
  (s.setGov { s.gov.setPort q { e with effective := false, reason := r, source := src } with
      committed := s.gov.committed - draw s q }).setLic { s.lic with pool := s.lic.pool.erase q }

/-- Turns several ports OFF with one reason, in the given order. -/
def turnOffAll (qs : List Port) (r : PortReason) (s : State) : State :=
  qs.foldl (fun s q => turnOff q r s) s

/-- Queues the status of several ports, in the given order. -/
def publishPorts (cls : EntryClass) (qs : List Port) (s : State) : State :=
  qs.foldl (fun s q => publish cls (.port q) s) s

/-- Places ports at the head of the held list, in the given order (07 R108). -/
def holdHead (qs : List Port) (s : State) : State := s.setGov { s.gov with held := qs ++ s.gov.held }

/-- Places ports at the tail of the held list, in the given order (07 R108). -/
def holdTail (qs : List Port) (s : State) : State := s.setGov { s.gov with held := s.gov.held ++ qs }

/-- Takes ports out of the held list. -/
def unhold (f : Port → Bool) (s : State) : State :=
  s.setGov { s.gov with held := s.gov.held.filter fun q => !f q }

/-- All ports in ascending order. -/
def allPorts : List Port := List.finRange 384

/-- The ports of a slot in ascending order. -/
def slotPorts (k : SlotIx) : List Port :=
  (List.finRange 48).map fun i => ⟨48 * k.val + i.val, by omega⟩

/-! ### Settling (07 R109 to R113) -/

/-- The slots in the order in which the shed step takes their ports: lowest rank first, and among equal
ranks the higher slot number first (07 R110). -/
def shedSlots (p : Params) : List SlotIx :=
  (List.range 8).flatMap fun rank =>
    ((List.finRange 8).reverse).filter fun k => (p.slots[k]).shedRank == rank

/-- The ports in the order in which the shed step takes victims (07 R110). -/
def shedOrder (p : Params) : List Port := (shedSlots p).flatMap fun k => (slotPorts k).reverse

/-- One victim: OFF with reason SHED, at the head of the held list, status URGENT (07 R110). -/
def shedOne (q : Port) (s : State) : State :=
  publish .urgent (.port q) (holdHead [q] (turnOff q .shed s))

/-- One pass of the shed step at a port, counting the victims (07 R110). -/
def shedStep (acc : State × Nat) (q : Port) : State × Nat :=
  if acc.1.gov.headroomDw < acc.1.gov.committed && (acc.1.gov.ports[q]).effective then
    (shedOne q acc.1, acc.2 + 1)
  else acc

/-- The shed step, with SHED appended when it has shed (07 R110, R111). -/
def shed (s : State) : State :=
  if s.gov.committed ≤ s.gov.headroomDw then s
  else
    let r := (shedOrder s.params).foldl shedStep (s, 0)
    if r.2 = 0 then r.1
    else appendEvent .shed (BitVec.ofNat 32 r.2) (BitVec.ofNat 32 r.1.gov.headroomDw) r.1

/-- Admits a held port (05 R88, 07 R113). -/
def admitPort (q : Port) (s : State) : State :=
  let pooled := !groupLicensed s.lic q
  let lic := if pooled then { s.lic with pool := s.lic.pool ++ [q] } else s.lic
  let e := { s.gov.ports[q] with
    effective := true, reason := .none
    source := if pooled then .pool else (s.gov.ports[q]).source }
  publish .status (.port q)
    ((s.setGov { s.gov.setPort q e with
        committed := s.gov.committed + draw s q
        held := s.gov.held.erase q }).setLic lic)

/-- The reason a port takes when it fails the fit test (07 R112 step 3). -/
def fitReason (r : PortReason) : PortReason := if r = .shed then .shed else .power

/-- One port of the admission walk, counting the formerly SHED ports admitted (07 R112, R113). -/
def walkStep (acc : State × Nat) (q : Port) : State × Nat :=
  let s := acc.1
  let was := (s.gov.ports[q]).reason
  if s.gov.thermal.getLsbD (slotOf q).val then (setReason q .thermal s, acc.2)
  else if !groupLicensed s.lic q && s.lic.poolTotal ≤ s.lic.pool.length then
    (setReason q .unlicensed s, acc.2)
  else if s.gov.committed + draw s q + s.params.margin ≤ s.gov.headroomDw then
    (admitPort q s, acc.2 + if was = .shed then 1 else 0)
  else (setReason q (fitReason was) s, acc.2)

/-- The admission walk, with RESTORED appended when it has admitted SHED ports (07 R112, R113). -/
def admissionWalk (s : State) : State :=
  let r := s.gov.held.foldl walkStep (s, 0)
  if r.2 = 0 then r.1
  else appendEvent .restored (BitVec.ofNat 32 r.2) (BitVec.ofNat 32 r.1.gov.committed) r.1

/-- The number of held ports with a reason. -/
def heldWith (g : Governor) (r : PortReason) : Nat :=
  g.held.countP fun q => (g.ports[q]).reason == r

/-- The licence summary as the licence unit's state stands (05 R91). -/
def currentSummary (s : State) : LicSummary :=
  ⟨s.lic.poolTotal, s.lic.pool.length, heldWith s.gov .unlicensed⟩

/-- The governor hands the count of ports held UNLICENSED: the summary is published when it changes,
and the alarm unit is handed the LICENSE condition (05 R91). -/
def handUnlicensed (s : State) : State :=
  let m := currentSummary s
  let s1 := if m = s.lic.summary then s
    else publish .status .licence (s.setLic { s.lic with summary := m })
  setSource licenseSource (licenseSeverity s1.lic) s1

/-- Whether the headroom is 0 while a port is desired ON in a present, capable slot (06 R103). -/
def zeroHeadroom (s : State) : Bool :=
  s.gov.headroom == 0 &&
    allPorts.any fun q => (s.gov.ports[q]).desired && slotUp s.params s.gov (slotOf q)

/-- The end of a settle: counts, budget record, and the hand-overs to the licence unit and the alarm
unit (06 R102, R103, 07 R109). -/
def settleEnd (s : State) : State :=
  let s1 := publish .status .budget (s.setGov { s.gov with
    heldPower := heldWith s.gov .power, heldShed := heldWith s.gov .shed })
  let s2 := handUnlicensed s1
  handBudget (s2.gov.heldPower != 0) (s2.gov.heldShed != 0) (zeroHeadroom s2) s2

/-- Brings the port table into agreement with licences, budget and thermal holds (07 R109). -/
def settle (s : State) : State := settleEnd (admissionWalk (shed s))

/-- Recomputes the figures, settles, and hands the available power to the module unit (06 R100, R103),
after the BUDGET conditions that the settle hands, the model's choice (log 36). -/
def recomputeAndSettle (s : State) : State :=
  let s1 := settle (recompute s)
  handAvailable s1.gov.available s1

/-! ### Events at the governor -/

/-- Desired becomes ON (07 R114). -/
def desiredBecomesOn (q : Port) (s : State) : State :=
  let s1 := s.setGov (s.gov.setPort q { s.gov.ports[q] with desired := true })
  if slotUp s1.params s1.gov (slotOf q) then holdTail [q] s1 else s1

/-- Desired becomes OFF (07 R115). -/
def desiredBecomesOff (q : Port) (s : State) : State :=
  let s1 := s.setGov (s.gov.setPort q { s.gov.ports[q] with desired := false })
  if !slotUp s1.params s1.gov (slotOf q) then s1
  else if (s1.gov.ports[q]).effective then
    publish .urgent (.port q) (unhold (· == q) (turnOff q .notRequested s1))
  else
    publish .status (.port q) (unhold (· == q)
      (s1.setGov (s1.gov.setPort q { s1.gov.ports[q] with reason := .notRequested })))

/-- The speed code of an ON port changes (07 R116): the speed test of 06 R99 keeps the change or turns
the port OFF to the tail of the held list. -/
def speedOfOnPort (q : Port) (code : BitVec 2) (s : State) : State :=
  let d := draw s q
  let e := drawAt s.params q code
  let store := fun (x : State) => x.setGov (x.gov.setPort q { x.gov.ports[q] with speed := code })
  if d = e then store s
  else if s.gov.committed - d + e ≤ s.gov.headroomDw then
    (store s).setGov { (store s).gov with committed := s.gov.committed - d + e }
  else publish .urgent (.port q) (holdTail [q] (store (turnOff q .power s)))

/-- The classifier hands over a port's desired state and speed code: one event (07 R105). A port that
goes OFF leaves the committed draw with the draw it was committed with (log 27). -/
def handPort (q : Port) (desired : Bool) (code : BitVec 2) (s : State) : State :=
  let e := s.gov.ports[q]
  let store := fun (x : State) => x.setGov (x.gov.setPort q { x.gov.ports[q] with speed := code })
  let s1 :=
    if desired && !e.desired then desiredBecomesOn q (store s)
    else if !desired && e.desired then store (desiredBecomesOff q s)
    else if e.effective then speedOfOnPort q code s
    else store s
  recomputeAndSettle s1

/-- SLOT_PRES deasserts for a present slot (07 R118). The URGENT statuses are queued first, then those of
the other ports in ascending order, held or not, the model's choice (log 36). -/
def loseSlot (k : SlotIx) (s : State) : State :=
  let on := (slotPorts k).filter fun q => (s.gov.ports[q]).effective
  let off := (slotPorts k).filter fun q =>
    !(s.gov.ports[q]).effective && (s.gov.ports[q]).reason != .slotEmpty
  let s1 := turnOffAll on .slotEmpty s
  let s2 := unhold (fun q => slotOf q == k) (off.foldl (fun x q =>
    x.setGov (x.gov.setPort q { x.gov.ports[q] with reason := .slotEmpty })) s1)
  let s3 := s2.setGov { s2.gov with slotPresent := s2.gov.slotPresent &&& ~~~(1#8 <<< k.val) }
  recomputeAndSettle (publishPorts .status off (publishPorts .urgent on s3))

/-- SLOT_PRES asserts for an absent slot (07 R119). The statuses of the desired-OFF ports are queued first,
those of the held ports in the walk, the model's choice (log 36). -/
def gainSlot (k : SlotIx) (s : State) : State :=
  let s1 := recompute (s.setGov { s.gov with slotPresent := s.gov.slotPresent ||| (1#8 <<< k.val) })
  let wanted := (slotPorts k).filter fun q => (s1.gov.ports[q]).desired
  let others := (slotPorts k).filter fun q => !(s1.gov.ports[q]).desired
  let s2 :=
    if (s1.params.slots[k]).capable then
      holdTail wanted (others.foldl (fun x q => setReason q .notRequested x) s1)
    else s1
  recomputeAndSettle s2

/-- The fan unit hands the thermal hold set (07 R120, R121). -/
def handHoldSet (h : BitVec 8) (s : State) : State :=
  let joined := h &&& ~~~s.gov.thermal
  let off := allPorts.filter fun q =>
    joined.getLsbD (slotOf q).val && (s.gov.ports[q]).effective
  let s1 := holdHead off (turnOffAll off .thermal (s.setGov { s.gov with thermal := h }))
  settle (publishPorts .urgent off s1)

/-- The module unit hands a module's state (06 R100). -/
def handModState (i : ModIx) (m : ModState) (s : State) : State :=
  recomputeAndSettle (s.setGov { s.gov with modState := upd s.gov.modState i m })

/-- The fan unit hands a tray's commanded duty (06 R100). -/
def handDuty (t : TrayIx) (d : Nat) (s : State) : State :=
  recomputeAndSettle (s.setGov { s.gov with duty := upd s.gov.duty t d })

/-- The fan unit hands a tray's presence (06 R100). -/
def handTray (t : TrayIx) (present : Bool) (s : State) : State :=
  let bit := 1#4 <<< t.val
  recomputeAndSettle (s.setGov { s.gov with
    trayPresent := if present then s.gov.trayPresent ||| bit else s.gov.trayPresent &&& ~~~bit })

/-- Shows a port's licence source as the licence unit gives it, queuing a change as STATUS (05 R75). -/
def refreshSource (q : Port) (s : State) : State :=
  let src := sourceOf s.lic q
  if (s.gov.ports[q]).source = src then s
  else publish .status (.port q) (s.setGov (s.gov.setPort q { s.gov.ports[q] with source := src }))

end Sys2Proof.Machine
end

