-- ==== Sys2Proof/Machine/Fan.lean ====
section
/-! DEFINITION. The fan unit: measurement, rotor and tray states, duty, and thermal holds (09 R146 to R160). -/

namespace Sys2Proof.Machine

/-- The tray of a rotor and the rotors of a tray (09 R146). -/
def trayOf (r : RotorIx) : TrayIx := ⟨r.val / 2, by omega⟩
def rotor0 (t : TrayIx) : RotorIx := ⟨2 * t.val, by omega⟩
def rotor1 (t : TrayIx) : RotorIx := ⟨2 * t.val + 1, by omega⟩

/-- Replaces a rotor or a tray. -/
def setRotor (r : RotorIx) (x : Rotor) (s : State) : State :=
  s.setFan { s.fan with rotors := upd s.fan.rotors r x }
def setTray (t : TrayIx) (x : Tray) (s : State) : State :=
  s.setFan { s.fan with trays := upd s.fan.trays t x }

/-- Whether a tray in a state is counted ABSENT (09 R146). -/
def countedAbsent (p : Params) (t : TrayIx) (st : TrayState) : Bool :=
  st == .absent && (p.trays[t]).cooling != 0

/-- Whether a tray in a state is bad (09 R146). -/
def trayBad (p : Params) (t : TrayIx) (st : TrayState) : Bool :=
  st == .failed || countedAbsent p t st

/-- Whether a tray's state calls for full duty: DEGRADED, FAILED or counted ABSENT (09 R153). -/
def trayForcesFull (p : Params) (t : TrayIx) (st : TrayState) : Bool :=
  st == .degraded || trayBad p t st

/-- Queues a tray record, or the fan record (09 R160). -/
def publishTray (t : TrayIx) (s : State) : State := publish .status (.tray t) s
def publishFan (s : State) : State := publish .status .fan s

/-! ### Duty (09 R153, R154) -/

/-- The curve value between two points (09 R153). -/
def curveSegment (a b : CurvePoint) (tc : Int) : Nat :=
  a.duty + ((tc - a.temp).toNat * (b.duty - a.duty)) / (b.temp - a.temp).toNat

/-- The curve value (09 R153). -/
def curveValue (cv : Vector CurvePoint 4) (tc : Int) : Nat :=
  if tc ≤ (cv[0]).temp then (cv[0]).duty
  else if (cv[3]).temp ≤ tc then (cv[3]).duty
  else if tc < (cv[1]).temp then curveSegment cv[0] cv[1] tc
  else if tc < (cv[2]).temp then curveSegment cv[1] cv[2] tc
  else curveSegment cv[2] cv[3] tc

/-- Whether any tray's state calls for full duty. -/
def anyForcesFull (p : Params) (f : Fans) : Bool :=
  (List.finRange 4).any fun t => trayForcesFull p t (f.trays[t]).state

/-- The target duty (09 R153). -/
def targetOf (p : Params) (f : Fans) : Nat :=
  match f.tc with
  | none => 100
  | some tc => if anyForcesFull p f then 100 else max (curveValue p.curve tc) p.minDuty

/-- Whether a rise of duty restarts a rotor's spin-up (09 R151). -/
def Rotor.respins (r : Rotor) : Bool := r.state == .spinup || r.state == .ok

/-- A rotor whose spin-up starts or restarts (09 R151). -/
def Rotor.spinUp (ticks : Nat) (r : Rotor) : Rotor :=
  { r with state := .spinup, spin := .running ticks, low := 0 }

/-- Restarts the spin-up of a rotor that is in SPINUP or OK (09 R151). -/
def respin (r : RotorIx) (s : State) : State :=
  if (s.fan.rotors[r]).respins then
    setRotor r ((s.fan.rotors[r]).spinUp s.params.spinUpTicks) s
  else s

/-- A tray's commanded duty follows a changed target (09 R154). -/
def Tray.follow (target : Nat) (y : Tray) : Tray :=
  if y.duty < target then { y with duty := target, fall := .stopped }
  else if y.duty = target then { y with fall := .stopped }
  else if y.fall = .stopped then { y with fall := .running Config.fallTicks }
  else y

/-- Applies a changed target to one tray, with the spin-up of R151 and the tray record. -/
def applyTarget (s : State) (t : TrayIx) : State :=
  let y := s.fan.trays[t]
  let y' := y.follow s.fan.target
  let s1 := setTray t y' s
  let s2 := if y.duty + Config.spinUpRise ≤ y'.duty then respin (rotor1 t) (respin (rotor0 t) s1) else s1
  if y'.duty = y.duty then s2 else publishTray t s2

/-- Hands the governor the duties that differ from those before, in ascending tray order (09 R159). -/
def handDuties (before : Vector Tray 4) (s : State) : State :=
  (List.finRange 4).foldl
    (fun x t => if (x.fan.trays[t]).duty = (before[t]).duty then x
      else handDuty t (x.fan.trays[t]).duty x) s

/-- Recomputes the target duty and, when it changes, applies it to every tray (09 R153, R154). The records
are queued before the duties are handed on, the trays' in ascending order and the fan record last, the
model's choice (log 36). -/
def retarget (s : State) : State :=
  let n := targetOf s.params s.fan
  if n = s.fan.target then s
  else
    let s1 := s.setFan { s.fan with target := n }
    handDuties s.fan.trays (publishFan ((List.finRange 4).foldl applyTarget s1))

/-- A fall timer has expired (09 R154). -/
def Tray.fallStep (target : Nat) (y : Tray) : Tray :=
  let d := y.duty - min Config.fallStep (y.duty - target)
  { y with duty := d, fall := if target < d then .running Config.fallTicks else .stopped }

/-- A tray's fall timer has expired: the duty falls by its step and is handed on (09 R154). The tray
record is queued before that, the model's choice (log 36). -/
def fallExpiry (t : TrayIx) (s : State) : State :=
  let y := s.fan.trays[t]
  if y.fall = .expired then
    let y' := y.fallStep s.fan.target
    let s1 := setTray t y' s
    if y'.duty = y.duty then s1 else handDuty t y'.duty (publishTray t s1)
  else s

/-! ### Thermal holds (09 R155 to R158) -/

/-- The thermal hold set that the tray holds and the critical hold give (09 R158). -/
def holdSetOf (p : Params) (f : Fans) : BitVec 8 :=
  if f.critHold then 0xFF
  else (List.finRange 4).foldl
    (fun a t => if (f.trays[t]).hold then a ||| (p.trays[t]).cooling else a) 0

/-- Recomputes the thermal hold set; a changed set is taken, handed on, appended and published
(09 R158). -/
def rehold (cause : HoldCause) (s : State) : State :=
  let new := holdSetOf s.params s.fan
  let old := s.fan.holdSet
  if new = old then s
  else
    publishFan (appendEvent .thermalHold
      (place 0 8 new.toNat ||| place 8 8 (new &&& ~~~old).toNat ||| place 16 8 (old &&& ~~~new).toNat)
      (BitVec.ofNat 32 cause.code)
      (handHoldSet new (s.setFan { s.fan with holdSet := new })))

/-- A tray becomes bad or stops being bad (09 R155, R156). -/
def Tray.badness (derateTicks : Nat) (was is : Bool) (y : Tray) : Tray :=
  if is && !was then
    { y with recovered := false, recovery := .stopped, derate := .running derateTicks }
  else if was && !is then
    { y with derate := .stopped, recovery := .running Config.recoveryTicks }
  else y

/-- A tray's derate timer has expired (09 R155). The fan record for the tray hold is queued before the hold
set is handed on and THERMAL_HOLD asked for, the model's choice (log 36). -/
def derateExpiry (t : TrayIx) (s : State) : State :=
  let y := s.fan.trays[t]
  if y.derate = .expired then
    rehold (.tray t)
      (publishIfChanged .fan s (setTray t { y with derate := .stopped, hold := true } s))
  else s

/-- The slots that a tray not recovered keeps in need of a hold (09 R156). -/
def neededSlots (p : Params) (f : Fans) : BitVec 8 :=
  (List.finRange 4).foldl
    (fun a t => if (f.trays[t]).recovered then a else a ||| (p.trays[t]).cooling) 0

/-- Lifts the tray hold of a tray none of whose slots needs it (09 R156). -/
def liftHold (p : Params) (needed : BitVec 8) (f : Fans) (t : TrayIx) : Fans :=
  if (p.trays[t]).cooling &&& needed = 0 then
    { f with trays := upd f.trays t { f.trays[t] with hold := false } }
  else f

/-- A tray's recovery timer has expired (09 R156). The fan record for the lifted holds is queued before the
hold set is handed on and THERMAL_HOLD asked for, the model's choice (log 36). -/
def recoveryExpiry (t : TrayIx) (s : State) : State :=
  let y := s.fan.trays[t]
  if y.recovery = .expired then
    let s1 := setTray t { y with recovery := .stopped, recovered := true } s
    let lifted := (List.finRange 4).foldl (liftHold s1.params (neededSlots s1.params s1.fan)) s1.fan
    rehold .recovery (publishIfChanged .fan s (s1.setFan lifted))
  else s

/-- The critical hold that a handed Tc gives (09 R157). -/
def critHoldOf (p : Params) (tc : Option Int) (held : Bool) : Bool :=
  match tc with
  | none => false
  | some t => if p.critical ≤ t then true else if t < p.critical - 5 then false else held

/-- The critical hold follows Tc (09 R157). The fan record for it is queued before the hold set is handed on
and THERMAL_HOLD asked for, the model's choice (log 36). -/
def followCritical (s : State) : State :=
  let h := critHoldOf s.params s.fan.tc s.fan.critHold
  if h = s.fan.critHold then s
  else rehold (if h then .critical else .criticalEnd)
    (publishFan (s.setFan { s.fan with critHold := h }))

/-- The module unit hands a new Tc (09 R153, R157, 10 R170): the fan record for Tc, then the target duty,
then the critical hold, in an order that is the model's choice (log 36). -/
def handFanTc (tc : Option Int) (s : State) : State :=
  followCritical (retarget (publishIfChanged .fan s (s.setFan { s.fan with tc := tc })))

/-! ### Rotor and tray states (09 R150, R152) -/

/-- The severity of a ROTOR source (09 R150). -/
def rotorSeverity : RotorState → Severity
  | .slow => .minor
  | .stalled => .major
  | .absent => .none
  | .spinup => .none
  | .ok => .none

/-- The severity of a TRAY source (09 R152). -/
def traySeverity (p : Params) (t : TrayIx) (st : TrayState) : Severity :=
  if trayBad p t st then .major else if st = .degraded then .minor else .none

/-- The state of a tray from its presence and its two rotors (09 R152). -/
def trayStateOf (present : Bool) (a b : RotorState) : TrayState :=
  if !present then .absent
  else if a = .stalled ∧ b = .stalled then .failed
  else if a = .slow ∨ a = .stalled ∨ b = .slow ∨ b = .stalled then .degraded
  else .ok

/-- The tray state as line and rotors give it. -/
def derivedTray (s : State) (t : TrayIx) : TrayState :=
  trayStateOf (s.pins.trayPres.getLsbD t.val) (s.fan.rotors[rotor0 t]).state
    (s.fan.rotors[rotor1 t]).state

/-- Re-derives a tray's state and, when it changes, takes the five steps of 09 R152. -/
def rederiveTray (t : TrayIx) (s : State) : State :=
  let old := (s.fan.trays[t]).state
  let new := derivedTray s t
  if new = old then s
  else
    let s1 := setTray t { s.fan.trays[t] with state := new } s
    let s2 := setSource (traySource t) (traySeverity s.params t new) s1
    let s3 := appendEvent .trayState
      (place 0 8 t.val ||| place 8 8 new.code ||| place 16 8 old.code)
      (place 0 8 (s2.fan.rotors[rotor0 t]).state.code
        ||| place 8 8 (s2.fan.rotors[rotor1 t]).state.code) s2
    let s4 := retarget s3
    let s5 := setTray t ((s4.fan.trays[t]).badness s.params.derateTicks
      (trayBad s.params t old) (trayBad s.params t new)) s4
    publishTray t s5

/-- Gives a rotor its new value; a changed state is handed to the alarm unit (09 R150). -/
def changeRotor (r : RotorIx) (x : Rotor) (s : State) : State :=
  let s1 := setRotor r x s
  if x.state = (s.fan.rotors[r]).state then s1
  else setSource (rotorSource r) (rotorSeverity x.state) s1

/-! ### Measurement (09 R148 to R150) -/

/-- A sample joins a ring of at most four (09 R149). -/
def joinRing (ring : List Nat) (sample : Nat) : List Nat :=
  (if 4 ≤ ring.length then ring.drop 1 else ring) ++ [sample]

/-- The filtered rpm of a ring (09 R149). -/
def filter (ring : List Nat) : Nat := if ring.isEmpty then 0 else ring.sum / ring.length

/-- A rotor with a sample in its ring; the ring is cleared first when `clear` (09 R149). -/
def Rotor.withSample (clear : Bool) (sample : Nat) (r : Rotor) : Rotor :=
  let ring := joinRing (if clear then [] else r.ring) sample
  { r with ring := ring, filtered := filter ring }

/-- The rpm of a good measurement of T reference periods (09 R148). -/
def goodRpm (T : Nat) : Nat := if T < 400 then 30000 else 12000000 / T

/-- The expected rpm and the two thresholds (09 R150). -/
def expectedRpm (maxRpm duty : Nat) : Nat := maxRpm * duty / 100
def slowThreshold (e : Nat) : Nat := e * 70 / 100
def okThreshold (e : Nat) : Nat := e * 80 / 100

/-- A rotor's judgement at a good measurement whose sample is in its ring (09 R150). -/
def Rotor.judgeGood (e spinTicks : Nat) (r : Rotor) : Rotor :=
  match r.state with
  | .ok =>
    if r.filtered < slowThreshold e then
      (if 3 ≤ r.low + 1 then { r with low := 3, state := .slow } else { r with low := r.low + 1 })
    else { r with low := 0 }
  | .slow => if okThreshold e ≤ r.filtered then { r with state := .ok, low := 0 } else r
  | .stalled => r.spinUp spinTicks
  | .spinup => r
  | .absent => r

/-- A rotor's judgement at a stalled measurement (09 R150). -/
def Rotor.judgeStalled (r : Rotor) : Rotor :=
  match r.state with
  | .ok => { r with state := .stalled, low := 0 }
  | .slow => { r with state := .stalled, low := 0 }
  | .stalled => r
  | .spinup => r
  | .absent => r

/-- The end of a measurement event: the rotor is taken, the tray re-derived, and the tray record queued
when a field of it has changed (09 R149, R152, R160). -/
def measured (r : RotorIx) (x : Rotor) (s : State) : State :=
  publishIfChanged (.tray (trayOf r)) s (rederiveTray (trayOf r) (changeRotor r x s))

/-- A good measurement of T periods completes; `carry` periods already belong to the next one
(09 R148, R149, R150). -/
def goodMeasured (r : RotorIx) (T carry : Nat) (s : State) : State :=
  let x := s.fan.rotors[r]
  let t := trayOf r
  let e := expectedRpm (s.params.trays[t]).maxRpm (s.fan.trays[t]).duty
  measured r
    ((Rotor.withSample (x.state == .stalled) (goodRpm T) { x with edges := 0, periods := carry }).judgeGood
      e s.params.spinUpTicks) s

/-- A stalled measurement completes: the phase becomes WAITING and the period count 0 (09 R148). -/
def stalledMeasured (r : RotorIx) (s : State) : State :=
  let x := s.fan.rotors[r]
  measured r
    (Rotor.judgeStalled (Rotor.withSample false 0 { x with phase := .waiting, periods := 0 })) s

/-- Whether the 65,535th period of a measurement has come and its stalled measurement is still to be
taken (log 31). -/
def Rotor.stallDue (x : Rotor) : Bool := x.phase != .stopped && x.periods == Config.stallPeriods

/-- A rising tach edge (09 R148). When the 65,535th period falls together with the edge and the edge
comes first, that period is the first of what follows (log 31). -/
def edge (r : RotorIx) (s : State) : State :=
  let x := s.fan.rotors[r]
  let carry := if x.stallDue then 1 else 0
  match x.phase with
  | .stopped => s
  | .waiting => setRotor r { x with phase := .timing, edges := 0, periods := carry } s
  | .timing =>
    if 4 ≤ x.edges + 1 then goodMeasured r (x.periods - carry) carry s
    else setRotor r { x with edges := x.edges + 1 } s

/-- The spin-up timer of a rotor has expired (09 R151). -/
def spinUpDone (r : RotorIx) (s : State) : State :=
  let x := s.fan.rotors[r]
  if x.spin = .expired then
    measured r { x with spin := .stopped, state := .ok, low := 0 } s
  else s

/-! ### Tray presence (09 R147) -/

/-- A rotor of a tray that is inserted. -/
def Rotor.inserted (ticks : Nat) (r : Rotor) : Rotor :=
  Rotor.spinUp ticks { r with ring := [], filtered := 0, phase := .waiting, periods := 0 }

/-- A rotor of a tray that is removed. -/
def Rotor.removed (r : Rotor) : Rotor :=
  { r with state := .absent, phase := .stopped, ring := [], filtered := 0, spin := .stopped }

/-- The line change of a tray in SUPERVISING: rotors, presence hand-over, then the tray state (09 R147,
R159). The ROTOR conditions are handed before the presence, the model's choice (log 36). -/
def trayChanged (t : TrayIx) (present : Bool) (f : Rotor → Rotor) (s : State) : State :=
  let s1 := changeRotor (rotor0 t) (f (s.fan.rotors[rotor0 t])) s
  let s2 := changeRotor (rotor1 t) (f (s1.fan.rotors[rotor1 t])) s1
  publishTray t (rederiveTray t (handTray t present s2))

/-- The fan unit's timers take a tick (09 R151, R154 to R156). -/
def Tray.tick (y : Tray) : Tray :=
  { y with fall := y.fall.tick, derate := y.derate.tick, recovery := y.recovery.tick }

def Fans.tick (f : Fans) : Fans :=
  { f with
    trays := (List.finRange 4).foldl (fun v t => upd v t (v[t]).tick) f.trays
    rotors := (List.finRange 8).foldl (fun v r => upd v r { v[r] with spin := (v[r]).spin.tick }) f.rotors }

/-- One reference period at a rotor whose stalled measurement is not due (09 R148). -/
def Rotor.period (x : Rotor) : Rotor :=
  if x.phase = .stopped then x else { x with periods := x.periods + 1 }

/-- The fan unit's start at the entry to SUPERVISING, tray by tray (09 R146). -/
def startTray (s : State) (t : TrayIx) : State :=
  if s.pins.trayPres.getLsbD t.val then
    let s1 := setRotor (rotor0 t) ((s.fan.rotors[rotor0 t]).inserted s.params.spinUpTicks) s
    let s2 := setRotor (rotor1 t) ((s1.fan.rotors[rotor1 t]).inserted s.params.spinUpTicks) s1
    setTray t { s2.fan.trays[t] with state := .ok } s2
  else if countedAbsent s.params t .absent then
    setTray t { s.fan.trays[t] with recovered := false, derate := .running s.params.derateTicks } s
  else s

end Sys2Proof.Machine
end

