-- ==== Sys2Proof/Machine/Module.lean ====
section
/-! DEFINITION. The module unit and the management link (10 R161 to R172). -/

namespace Sys2Proof.Machine

/-- Replaces a module. -/
def setModule (i : ModIx) (m : Module) (s : State) : State :=
  s.setMdl { s.mdl with mods := upd s.mdl.mods i m }

/-- Queues a module record, or the link record (10 R172). -/
def publishModule (i : ModIx) (s : State) : State := publish .status (.module i) s
def publishLink (s : State) : State := publish .status .link s

/-! ### Module state (10 R163, R172) -/

/-- Whether any flag of a reading is set. -/
def Reading.flagged (r : Reading) : Bool := r.inputLost || r.overtemp || r.fanFault

/-- Whether a kept reading has a flag set. -/
def Module.flagged (m : Module) : Bool :=
  match m.reading with
  | none => false
  | some r => r.flagged

/-- The state derived from lines and report (10 R163). -/
def Module.derive (m : Module) : ModState :=
  if !m.pres.level then .absent
  else if !m.good.level then .failed
  else if m.validity ≠ .none ∧ m.flagged = true then .degraded
  else .healthy

/-- The severity of a MODULE source (10 R172). -/
def moduleSeverity (p : Params) (i : ModIx) (m : Module) : Severity :=
  if !m.judged then .none
  else if m.state = .failed then .major
  else if m.state = .degraded ∨ m.validity = .stale then .minor
  else if m.state = .absent ∧ (p.mods[i]).capacity ≠ 0 then .minor
  else .none

/-- Hands the alarm unit a module's condition (10 R172). -/
def handModuleSource (i : ModIx) (s : State) : State :=
  setSource (moduleSource i) (moduleSeverity s.params i s.mdl.mods[i]) s

/-- Judges a module: a changed state is handed to the governor and the alarm unit, appended and
published, in this order (10 R163). A first judgement that leaves the state hands the alarm unit the condition
(10 R172); a change of validity alone is handed by `concludeAttempt`, at its place there (log 11). -/
def judge (i : ModIx) (s : State) : State :=
  let m := s.mdl.mods[i]
  let new := m.derive
  let s1 := setModule i { m with judged := true, state := new } s
  if new = m.state then (if m.judged then s1 else handModuleSource i s1)
  else
    publishModule i (appendEvent .moduleState
      (place 0 8 i.val ||| place 8 8 new.code ||| place 16 8 m.state.code
        ||| place 24 8 m.validity.code) 0
      (handModuleSource i (handModState i new s1)))

/-! ### Chassis temperature and reported sum (10 R170, R171) -/

/-- The reading of a module whose report is VALID. -/
def Module.validReading (m : Module) : Option Reading :=
  if m.validity = .valid then m.reading else none

/-- The higher of a Tc and a module's inlet temperature. -/
def higherTc (tc : Option Int) (m : Module) : Option Int :=
  match m.validReading, tc with
  | none, tc => tc
  | some r, none => some r.inlet
  | some r, some t => some (max r.inlet t)

/-- Tc from the reports (10 R170). -/
def tcOf (ms : Vector Module 4) : Option Int := ms.foldl higherTc none

/-- The reported sum (10 R171). -/
def reportedSumOf (ms : Vector Module 4) : Nat :=
  ms.foldl (fun a m => a + (match m.validReading with | none => 0 | some r => r.power)) 0

/-- Recomputes Tc; a changed value goes to the fan unit and the alarm unit (10 R170), after the link record
and in this order, the model's choice (log 36). -/
def rejudgeTc (s : State) : State :=
  let tc := tcOf s.mdl.mods
  if tc = s.mdl.tc then s
  else handAlarmTc tc (handFanTc tc (publishLink (s.setMdl { s.mdl with tc := tc })))

/-- Recomputes the reported sum and overdraw (10 R171). The link record for the sum is queued before overdraw
is handed on, the model's choice (log 36). -/
def rejudgeSum (s : State) : State :=
  let n := reportedSumOf s.mdl.mods
  judgeOverdraw (if n = s.mdl.reportedSum then s
    else publishLink (s.setMdl { s.mdl with reportedSum := n }))

/-! ### Rounds (10 R164) -/

/-- An attempt for a module begins at the link address that the descriptor gives it, waiting for a free link
(10 R165). The two link counts run on. -/
def beginAttempt (i : ModIx) (retry : Bool) (s : State) : State :=
  s.setMdl { s.mdl with attempt := some ⟨i, (s.params.mods[i]).address, retry, false, false⟩ }

/-- The round comes to the given positions in turn: it stops at the first fitted module, and ends after
the last (10 R164). A module it passes for the first time is judged (10 R163). -/
def runPositions : List ModIx → State → State
  | [], s => s.setMdl { s.mdl with round := none }
  | i :: rest, s =>
    let s1 := s.setMdl { s.mdl with round := some i }
    if (s1.mdl.mods[i]).pres.level then beginAttempt i false s1
    else runPositions rest (if (s1.mdl.mods[i]).judged then s1 else judge i s1)

/-- A round begins, and the poll timer with it (10 R164). -/
def startRound (s : State) : State :=
  runPositions (List.finRange 4) (s.setMdl { s.mdl with
    pollTimer := .running s.params.pollTicks, roundDue := false })

/-- Position `i` is finished: the round goes on, and a round that is due follows its end (10 R164). -/
def finishPosition (i : ModIx) (s : State) : State :=
  let s2 := runPositions ((List.finRange 4).filter fun j => i < j) (s.setMdl { s.mdl with attempt := none })
  if s2.mdl.round.isNone && s2.mdl.roundDue then startRound s2 else s2

/-- The poll timer has expired (10 R164). -/
def pollExpiry (s : State) : State :=
  if s.mdl.pollTimer = .expired then
    if s.mdl.round.isNone then startRound s
    else s.setMdl { s.mdl with pollTimer := .stopped, roundDue := true }
  else s

/-! ### Attempts (10 R165 to R169) -/

/-- A failed attempt: NO_ACK, BAD_CHECK or STUCK (10 R166, R168). A report that becomes STALE with no reading
takes a free value in place of one, for its record alone (log 40). -/
def Module.fail (o : LinkOutcome) (m : Module) : Module :=
  let n := if m.failures < 255 then m.failures + 1 else m.failures
  { m with failures := n, last := o, validity := if n = 3 then .stale else m.validity
           unread := if n = 3 ∧ m.reading = none then m.unread + 1 else m.unread }

/-- The reading of a reply (10 R165, 12 section 12.7). -/
def replyReading (powerLow powerHigh inlet flags : Byte) : Reading :=
  { power := powerLow.toNat + 256 * powerHigh.toNat, inlet := inlet.toInt
    inputLost := flags.getLsbD 0, overtemp := flags.getLsbD 1, fanFault := flags.getLsbD 2 }

/-- A module after the reply to an attempt (10 R166). -/
def Module.answer (a : BitVec 7) (reply : PollReply) (m : Module) : Module :=
  match reply with
  | .noAck _ => m.fail .noAck
  | .bytes lo hi inlet flags check =>
    if crc8 (pollSent a ++ [lo, hi, inlet, flags]) = check then
      { m with validity := .valid, failures := 0, last := .ok
               reading := some (replyReading lo hi inlet flags) }
    else m.fail .badCheck

/-- The end of an attempt that counts: report, record, judgement, Tc and overdraw, the MODULE source where the
validity has changed and the state has not, and the position (10 R166). That these come in the order in which
the rule lists them, the MODULE source of a changed state within the judgement (10 R163) and so before Tc and
overdraw, that of a changed validity alone after them, is the model's choice (log 11). -/
def concludeAttempt (i : ModIx) (m : Module) (s : State) : State :=
  finishPosition i (handModuleSource i (rejudgeSum (rejudgeTc (judge i
    (publishModule i (setModule i m s))))))

/-- The attempts in flight, first on the link first: those left over by closings, then the round's
(10 R169). -/
def Modules.attempts (m : Modules) : List Attempt := m.leftover ++ m.attempt.toList

/-- The attempt whose transaction is on the link. -/
def Modules.onLink (m : Modules) : Option Attempt := m.attempts.head?.filter Attempt.started

/-- The part begins a transaction once the link is free (10 R165 step 1): it sends the start condition, which
makes the link busy. That a free link is begun on while LINK_CLK is reported held low is the model's choice (log 38). -/
def attemptStart (s : State) : State :=
  if s.mdl.linkBusy then s
  else match s.mdl.leftover with
    | a :: rest =>
      if a.started then s
      else s.setMdl { s.mdl with leftover := { a with started := true } :: rest, linkBusy := true
                                 busyCount := 0, wire := [.start] }
    | [] => match s.mdl.attempt with
      | some a =>
        if a.started then s
        else s.setMdl { s.mdl with attempt := some { a with started := true }, linkBusy := true
                                   busyCount := 0, wire := [.start] }
      | none => s

/-- A transaction runs on to its stop on the link (10 R165, R166, R169): the link is free, and the clock was
high for the stop, so that both link counts are 0. -/
def attemptEnd (reply : PollReply) (s : State) : State :=
  match s.mdl.onLink with
  | none => s
  | some a =>
    let s1 := s.setMdl { s.mdl with
      linkBusy := false, heldClock := 0, busyCount := 0, wire := linkTransaction a.address reply }
    if !s.mdl.leftover.isEmpty then s1.setMdl { s1.mdl with leftover := s1.mdl.leftover.tail }
    else if a.discard then finishPosition a.module s1
    else concludeAttempt a.module ((s1.mdl.mods[a.module]).answer a.address reply) s1

/-- The part has lost arbitration with what it has put on the link: one retry, then a deferral (10 R167, R169).
The clock was high for the bit that it lost, and the link stays busy until the winner's stop. -/
def attemptLost (a : Attempt) (wire : List LinkSymbol) (s : State) : State :=
  let i := a.module
  let m := s.mdl.mods[i]
  let s0 := s.setMdl { s.mdl with heldClock := 0, wire := wire }
  if !s.mdl.leftover.isEmpty then s0.setMdl { s0.mdl with leftover := s0.mdl.leftover.tail }
  else if a.retry then
    finishPosition i
      (if a.discard then s0 else publishModule i (setModule i { m with last := .deferred } s0))
  else
    let s1 := if a.discard then s0 else publishModule i (setModule i { m with last := .arbLost } s0)
    if m.pres.level then beginAttempt i true s1 else finishPosition i s1

/-- The part loses arbitration where the transaction on the link can lose it (10 R165, R167). -/
def arbitrationLost (point : LinkPoint) (s : State) : State :=
  match s.mdl.onLink with
  | none => s
  | some a =>
    match linkLoss a.address point with
    | none => s
    | some wire => attemptLost a wire s

/-- The link is stuck (10 R168): nine pulses and a stop, which frees the link, unless the clock is still held
low and nothing can be sent; the attempt ends STUCK, and both counts begin again. Where an attempt left over by a
closing is still in flight and another waits behind it (10 R169), the recovery ends the first of them alone, without
effect on any module, and what waits goes on with no failure and both counts 0, the model's choice (log 41). -/
def stuck (s : State) : State :=
  if !s.mdl.stuckDue then s
  else
    let s1 := s.setMdl { s.mdl with
      linkBusy := s.mdl.linkBusy && s.pins.linkClkLow
      wire := linkRecovery s.pins.linkClkLow
      heldClock := 0, busyCount := 0, stuckDue := false }
    if !s.mdl.leftover.isEmpty then s1.setMdl { s1.mdl with leftover := s1.mdl.leftover.tail }
    else match s.mdl.attempt with
      | none => s1
      | some a =>
        if a.discard then finishPosition a.module s1
        else concludeAttempt a.module ((s1.mdl.mods[a.module]).fail .stuck) s1

/-- What comes to the link finds a recovery that is due taken: the 25 ms were exceeded before it
(10 R168; log 15). -/
def onLinkAfterStuck (f : State → State) (s : State) : State := f (stuck s)

/-- Whether the part waits for the link to become free (10 R165 step 1). -/
def Modules.waitsForLink (m : Modules) : Bool := m.attempts.any fun a => !a.started

/-- Whether an attempt is in flight. -/
def Modules.inFlight (m : Modules) : Bool := !m.attempts.isEmpty

/-- One reference period at the link's two counts (10 R161, R168). -/
def Modules.period (clkLow : Bool) (m : Modules) : Modules :=
  let h := if clkLow && m.inFlight then m.heldClock + 1 else 0
  let b := if m.linkBusy && m.waitsForLink then m.busyCount + 1 else 0
  { m with
    heldClock := min h Config.stuckPeriods, busyCount := min b Config.stuckPeriods
    stuckDue := decide (Config.stuckPeriods < h) || decide (Config.stuckPeriods < b) }

/-- The level of the clock line and the busy flag after a condition on the link (10 R161, log 15). -/
def linkChange (busy clkLow : Bool) (s : State) : State :=
  let h := if clkLow then s.mdl.heldClock else 0
  let b := if busy then s.mdl.busyCount else 0
  (s.setPins { s.pins with linkClkLow := clkLow }).setMdl
    { s.mdl with linkBusy := busy, heldClock := h, busyCount := b }

/-! ### Lines (10 R162) -/

/-- A tick's sample of a line (10 R162). -/
def Debounce.sample (x : Bool) (d : Debounce) : Debounce :=
  if x = d.level then { d with count := 0, due := false }
  else if Config.debounceSamples ≤ d.count + 1 then { d with due := true }
  else { d with count := d.count + 1 }

/-- A debounced change that is due is taken. -/
def Debounce.take (d : Debounce) : Debounce := ⟨!d.level, 0, false⟩

/-- A tick's samples of all module lines (10 R162). -/
def sampleLines (pres good : BitVec 4) (v : Vector Module 4) : Vector Module 4 :=
  (List.finRange 4).foldl (fun v i =>
    upd v i { v[i] with pres := (v[i]).pres.sample (pres.getLsbD i.val)
                        good := (v[i]).good.sample (good.getLsbD i.val) }) v

/-- A module whose presence has deasserted loses its report (10 R162). -/
def Module.loseReport (m : Module) : Module :=
  { m with validity := .none, reading := none, failures := 0, last := .none }

/-- An attempt in flight for a module whose presence deasserts has its outcome discarded (10 R169). -/
def discardFor (i : ModIx) (m : Modules) : Modules :=
  { m with attempt := m.attempt.map fun a => if a.module = i then { a with discard := true } else a }

/-- What a debounced change brings about in SUPERVISING, in the order in which the rule lists it, the module
record first (10 R162; the order is the model's choice, log 11). -/
def afterDebounce (i : ModIx) (s : State) : State :=
  rejudgeSum (rejudgeTc (judge i (publishModule i s)))

/-- A debounced change of a module's line (10 R162). -/
def debounced (i : ModIx) (line : ModLine) (s : State) : State :=
  let m := s.mdl.mods[i]
  match line with
  | .pres =>
    if !m.pres.due then s
    else
      let m1 := { m with pres := m.pres.take }
      if !supervising s then setModule i m1 s
      else if m1.pres.level then afterDebounce i (setModule i m1 s)
      else
        let s1 := setModule i m1.loseReport s
        afterDebounce i (s1.setMdl (discardFor i s1.mdl))
  | .good =>
    if !m.good.due then s
    else
      let s1 := setModule i { m with good := m.good.take } s
      if !supervising s then s1 else afterDebounce i s1

/-- The module unit at the end of a RESTART closing (10 R161, R169): debounced levels, link flag and
counts stay; every attempt in flight ends on the link, in turn, with its outcome discarded. The count of the
model's free values goes on (log 40). -/
def Modules.closed (m : Modules) : Modules :=
  { Modules.powerOn with
    mods := (List.finRange 4).foldl (fun v i =>
      upd v i { Module.powerOn with
        pres := (m.mods[i]).pres, good := (m.mods[i]).good, unread := (m.mods[i]).unread })
      Modules.powerOn.mods
    leftover := m.attempts
    wire := m.wire
    linkBusy := m.linkBusy, heldClock := m.heldClock, busyCount := m.busyCount
    stuckDue := m.stuckDue }

end Sys2Proof.Machine
end

