-- ==== Sys2Proof/Machine/Licence.lean ====
section
/-! DEFINITION. The licence unit: INSTALL, REMOVE, the hour tick, withdrawal and the pool (05 R74 to R92). -/

namespace Sys2Proof.Machine

/-- Replaces a grant slot. -/
def setSlot (k : SlotIx) (g : GrantSlot) (s : State) : State :=
  s.setLic { s.lic with slots := upd s.lic.slots k g }

/-- The address of word `n` of a grant slot (01 R9). -/
def slotWordAddr (r : Regions) (k : SlotIx) (n : Nat) : Nat := wordAt r.lsa.base (8 * k.val + n)

/-- An INSTALL is taken (05 R79). -/
def startInstall (k : SlotIx) (s : State) : State :=
  askRead (.install k) (slotWordAddr s.regions k 3)
    (setStatus .status (.slot k) .running .none 0 (setSlot k ⟨.installing, none, 0, []⟩ s))

/-- An INSTALL ends without a grant: the slot is REJECTED with an outcome (05 R80, R81). -/
def rejectGrant (k : SlotIx) (o : Outcome) (detail : Nat) (s : State) : State :=
  appendEvent .grantRejected (place 0 8 k.val ||| place 8 8 o.code) (BitVec.ofNat 32 detail)
    (setStatus .status (.slot k) .done o (BitVec.ofNat 16 detail)
      (setSlot k ⟨.rejected, none, 0, []⟩ s))

/-- The fields of a grant body (12 section 12.5); the kind as its number. -/
structure GrantBody where
  id : Word
  kind : Nat
  poolCount : Nat
  groups : BitVec 48
  term : Nat
  check : BitVec 16
  deriving DecidableEq, Repr

/-- Reads the fields of body words 3 to 7. -/
def grantBody (body : List Word) : GrantBody :=
  let w := fun n => body.getD n 0
  { id := w 0, kind := field (w 1) 0 8, poolCount := field (w 1) 16 16
    groups := (w 3).extractLsb' 0 16 ++ w 2, term := field (w 3) 16 16
    check := (w 4).extractLsb' 0 16 }

/-- The first field of a body at fault (05 R81 step 1). -/
def fieldFault (b : GrantBody) : Option Nat :=
  if b.id = 0 then some 1
  else if b.kind ≠ 1 ∧ b.kind ≠ 2 then some 2
  else if b.kind = 2 ∧ (b.poolCount = 0 ∨ 384 < b.poolCount) then some 3
  else if b.kind = 1 ∧ b.groups = 0 then some 4
  else none

/-- Whether another slot holds the grant id, ACTIVE or EXPIRED (05 R83). -/
def GrantSlot.holdsGrant (g : GrantSlot) (id : Word) : Bool :=
  match g.grant with
  | some gr => (g.state == .active || g.state == .expired) && gr.id == id
  | none => false

/-- The lowest other slot that holds the grant id (05 R83). -/
def duplicateSlot (l : Licence) (k : SlotIx) (id : Word) : Option SlotIx :=
  (List.finRange 8).find? fun j => j != k && (l.slots[j]).holdsGrant id

/-- The number of groups in a set. -/
def groupCount (g : BitVec 48) : Nat := (List.range 48).countP fun n => g.getLsbD n

/-- The ports of groups that a set licenses, in ascending order. -/
def portsOfGroups (g : BitVec 48) : List Port := allPorts.filter fun q => g.getLsbD (groupOf q)

/-- Ports whose group becomes licensed take source GROUP and leave the pool assignment list (05 R83,
R89). Their statuses are queued in ascending port order, before the settle, the model's choice (log 36). -/
def takeGroups (fresh : BitVec 48) (s : State) : State :=
  let qs := portsOfGroups fresh
  let s1 := s.setLic { s.lic with pool := s.lic.pool.filter fun q => !fresh.getLsbD (groupOf q) }
  qs.foldl (fun x q => refreshSource q x) s1

/-- The third detail of GRANT_INSTALLED: the pool count of a POOL grant, else the number of groups
(05 R83). -/
def installedCount (gr : Grant) : Nat :=
  match gr.kind with
  | .pool => gr.poolCount
  | .group => groupCount gr.groups

/-- Publishes the licence summary (05 R83, R84, R91). -/
def publishSummary (s : State) : State := publish .status .licence s

/-- A body that passes every check is accepted (05 R83, R87). -/
def acceptGrant (k : SlotIx) (gr : Grant) (s : State) : State :=
  let fresh := gr.groups &&& ~~~licensedGroups s.lic
  let s1 := setStatus .status (.slot k) .done .done (BitVec.ofNat 16 gr.term)
    (setSlot k ⟨.active, some gr, gr.term, []⟩ s)
  let s2 := appendEvent .grantInstalled
    (place 0 8 k.val ||| place 8 8 gr.kind.code ||| place 16 16 (installedCount gr)) gr.id s1
  let s3 := match gr.kind with
    | .pool => s2.setLic { s2.lic with poolTotal := poolTotalOf s2.lic }
    | .group => takeGroups fresh s2
  publishSummary (settle s3)

/-- The end of an INSTALL that has read its body: the computed check is queued, then the body is judged
(05 R81 to R83). -/
def judgeGrant (k : SlotIx) (body : List Word) (s : State) : State :=
  let b := grantBody body
  let check := grantCheck s.params.serial body
  let s1 := s.setTw (s.tw.putNormal (.install k)
    ⟨slotWordAddr s.regions k 7, place 16 16 check.toNat, 0b1100⟩)
  match fieldFault b with
  | some n => rejectGrant k .badField n s1
  | none =>
    if b.check ≠ check then rejectGrant k .badCheck check.toNat s1
    else match duplicateSlot s1.lic k b.id with
      | some j => rejectGrant k .duplicate j.val s1
      | none =>
        acceptGrant k ⟨b.id, if b.kind = 2 then .pool else .group, b.poolCount, b.groups, b.term⟩ s1

/-- A grant body word arrives (05 R79, R80). -/
def installData (k : SlotIx) (w : Word) (err : Bool) (s : State) : State :=
  let g := s.lic.slots[k]
  if err then rejectGrant k .memoryError (3 + g.image.length) s
  else
    let body := g.image ++ [w]
    if body.length < 5 then
      askRead (.install k) (slotWordAddr s.regions k (3 + body.length))
        (setSlot k { g with image := body } s)
    else judgeGrant k body s

/-! ### Withdrawal (05 R86, R90) -/

/-- Ports that lose their group licence: ON ports go OFF to the head of the held list, OFF ports show
source NONE (05 R86 step 1). The ON ports' statuses are queued first, the model's choice (log 36). -/
def withdrawGroups (lost : BitVec 48) (s : State) : State :=
  let qs := portsOfGroups lost
  let on := qs.filter fun q => (s.gov.ports[q]).effective
  let off := qs.filter fun q => !(s.gov.ports[q]).effective
  let s1 := holdHead on (turnOffAll on .unlicensed s)
  let s2 := on.foldl (fun x q =>
    x.setGov (x.gov.setPort q { x.gov.ports[q] with source := .none })) s1
  off.foldl (fun x q => refreshSource q x) (publishPorts .urgent on s2)

/-- Revokes pool licences from the tail of the assignment list until it fits the total: the tail goes OFF
first, and the held list keeps the order of assignment (05 R90). The count of ports held UNLICENSED is
handed after POOL_REVOKED (05 R91), the model's choice (log 36). -/
def revokePool (s : State) : State :=
  if s.lic.pool.length ≤ s.lic.poolTotal then s
  else
    let gone := s.lic.pool.drop s.lic.poolTotal
    let s1 := holdHead gone (turnOffAll gone.reverse .unlicensed s)
    handUnlicensed (appendEvent .poolRevoked (BitVec.ofNat 32 gone.length)
      (BitVec.ofNat 32 s1.lic.poolTotal) (publishPorts .urgent gone.reverse s1))

/-- Withdraws the licences of grants that have just stopped being ACTIVE: `before` are the groups that
were licensed by grants, and the slots already stand as they will (05 R86 steps 1 and 2, R87). The count
of ports held UNLICENSED is handed after each step (05 R91), and the LICENSE condition with it: so a rise of
LICENSE, that of a grant just EXPIRED too, comes before POOL_REVOKED and the settle, also where only a POOL
grant is withdrawn, the model's choice (log 36). -/
def withdraw (before : BitVec 48) (s : State) : State :=
  let lost := before &&& ~~~licensedGroups s.lic
  let s1 := handUnlicensed (withdrawGroups lost s)
  revokePool (s1.setLic { s1.lic with poolTotal := poolTotalOf s1.lic })

/-- The installed grant id, 0 when there is none (05 R84). -/
def GrantSlot.grantId (g : GrantSlot) : Word :=
  match g.grant with
  | some gr => gr.id
  | none => 0

/-- A REMOVE is taken (05 R84). The LICENSE condition is handed, in the settle or in place of it, before the
summary that closes the event is queued, the model's choice (log 36). -/
def removeGrant (k : SlotIx) (s : State) : State :=
  let g := s.lic.slots[k]
  let before := grantGroups s.lic
  let s1 := setSlot k .powerOn s
  let s2 := if g.state = .active then withdraw before s1 else s1
  let s3 := appendEvent .grantRemoved (place 0 8 k.val ||| place 8 8 g.state.code) g.grantId
    (setStatus .status (.slot k) .done .done 0 s2)
  publishSummary (if g.state = .active then settle s3 else handUnlicensed s3)

/-- Whether the hour tick counts a slot down (05 R85). -/
def GrantSlot.counts (g : GrantSlot) : Bool :=
  match g.state, g.grant with
  | .active, some gr => gr.term != 0
  | _, _ => false

/-- The hour tick at one slot (05 R85). -/
def hourAtSlot (s : State) (k : SlotIx) : State :=
  let g := s.lic.slots[k]
  if !g.counts then s
  else if g.remaining ≤ 1 then
    appendEvent .grantExpired (place 0 8 k.val) g.grantId
      (setStatus .status (.slot k) .done .done 0
        (setSlot k { g with state := .expired, remaining := 0 } s))
  else
    setStatus .status (.slot k) .done .done (BitVec.ofNat 16 (g.remaining - 1))
      (setSlot k { g with remaining := g.remaining - 1 } s)

/-- Whether a slot expires in this hour tick. -/
def GrantSlot.expires (g : GrantSlot) : Bool := g.counts && decide (g.remaining ≤ 1)

/-- The hour tick at the licence unit (05 R85, R86). -/
def hourAtLicence (s : State) : State :=
  let before := grantGroups s.lic
  let any := s.lic.slots.any GrantSlot.expires
  let s1 := (List.finRange 8).foldl hourAtSlot s
  if any then settle (withdraw before s1) else s1

/-! ### The snapshot (05 R92) -/

/-- The licensed ports of a moment, bit p for port p. -/
def licenceSnapshot (l : Licence) : BitVec 384 :=
  allPorts.foldl (fun a q =>
    if groupLicensed l q || l.pool.contains q then a ||| (1#384 <<< q.val) else a) 0

end Sys2Proof.Machine
end

