-- ==== Sys2Proof/Machine/Zoning.lean ====
section
/-! DEFINITION. The zoning unit: commit, flip, edits, suspension, clone and their results (08 R123 to R145). -/

namespace Sys2Proof.Machine

/-- Queues the zoning record (08 R127). -/
def publishZoning (s : State) : State := publish .status .zoning s

/-- The stage the operation is in: the suspended stage while it is suspended. -/
def Zoning.stage (z : Zoning) : ZonState :=
  match z.op with
  | .suspended => z.susp.getD .idle
  | .idle => .idle
  | .validating => .validating
  | .marking => .marking
  | .flipping => .flipping
  | .cloning => .cloning

/-- Whether an entry is one of the zoning unit's bank or live-word writes. -/
def Entry.isBankWrite (e : Entry) : Bool :=
  e.cls == .normal && (e.origin == .zoning || e.origin == .liveWord)

/-- Whether a waiting value is one of the zoning unit's bank or live-word writes. -/
def Waiter.isBankWrite : Waiter → Bool
  | .value e => e.isBankWrite
  | .record _ _ => false
  | .publication => false

/-- Whether a bank write of the unit waits for a free entry. -/
def bankWriteWaits (s : State) : Bool := s.tw.waiting.any Waiter.isBankWrite

/-- Whether a bank write of the unit is queued or waits (08 R129; log 17). -/
def bankWritesPending (s : State) : Bool := s.tw.queue.any Entry.isBankWrite || bankWriteWaits s

/-- The target of the operation's next read: the staging bank for a commit, the live bank for a clone
(08 R130, R141). -/
def zonReadTarget (s : State) : Nat :=
  if s.zon.op = .cloning then wordAt (bankBase s.regions s.zon.liveBank) s.zon.pos
  else wordAt (stagingBase s) s.zon.pos

/-- Asks for the operation's next read; a suspended commit asks for none (08 R138). -/
def zonAsk (s : State) : State :=
  if s.zon.op = .suspended then s else askRead .zoning (zonReadTarget s) s

/-! ### The end of an operation -/

/-- The unit with no operation. -/
def Zoning.ended (z : Zoning) : Zoning :=
  { z with op := .idle, susp := none, snapshot := none, writes := [], withheld := none
           after := .nothing, cur := none, firstReadDue := false, flipGen := none
           liveQueued := false }

/-- The event of an operation that ends without success (08 R145). -/
def failKind (z : Zoning) : Kind := if z.op = .cloning then .cloneFailed else .commitFailed

/-- Reads, waiting value and withheld value of an operation that ends (08 R137). While the operation
still waits for an earlier one's writes, the waiting values are that one's and stay (log 18). -/
def withdrawOperation (s : State) : State :=
  let s1 := dropReads .zoning s
  if s.zon.firstReadDue then s1
  else s1.setTw { s1.tw with waiting := s1.tw.waiting.filter fun x => !x.isBankWrite }

/-- Queues staging header word 1 as INVALID (08 R124). -/
def queueInvalid (cause : Outcome) (index : Nat) (s : State) : State :=
  putNormal .zoning (wordAt (stagingBase s) 1) (headerWord .invalid cause index) s

/-- An operation ends with an outcome other than DONE and ABORTED_RESTART: header, status word, event,
record (08 R132, R137, R140, R142, R143). That a clone's INVALID header entry stands first, as a commit's
does, is the model's choice: R143 gives it no place among the others (log 36). -/
def failOperation (o : Outcome) (detail : Nat) (s : State) : State :=
  let s1 := queueInvalid o detail (withdrawOperation s)
  let s2 := setStatus .status .zoning .done o (BitVec.ofNat 16 detail) s1
  let s3 := appendEvent (failKind s.zon) (place 0 8 o.code) (BitVec.ofNat 32 detail) s2
  publishZoning (s3.setZon s3.zon.ended)

/-- A RESTART ends an operation (08 R144): no header entry, no event, the status word URGENT. -/
def restartOperation (s : State) : State :=
  let s1 := withdrawOperation s
  let s2 := setStatus .urgent .zoning .done .abortedRestart 0 (s1.setZon s1.zon.ended)
  publishZoning s2

/-! ### Queuing words (08 R134, R135, R141) -/

/-- The live-word entry has joined the queue: from here the commit completes (08 R135, 02 R36). -/
def noteLive (v : Word) (s : State) : State :=
  s.setZon { s.zon with liveQueued := true, lastLive := some v }

/-- Queues one word, which joins the queue or waits. -/
def queueBank (b : BankWrite) (s : State) : State :=
  let s1 := putNormal (if b.live then .liveWord else .zoning) b.target b.value s
  if b.live && !s.tw.full then noteLive b.value s1 else s1

/-- Queues the operation's words one after another until one has to wait; a suspended commit keeps that
one as the withheld value (08 R134, R138). -/
def pumpWrites : Nat → State → State
  | 0, s => s
  | n + 1, s =>
    match s.zon.writes with
    | [] => s
    | b :: rest =>
      let s1 := s.setZon { s.zon with writes := rest }
      if s.tw.full then
        (if s.zon.op = .suspended then s1.setZon { s1.zon with withheld := some b } else queueBank b s1)
      else pumpWrites n (queueBank b s1)

/-- Whether every word of the operation has joined the queue. -/
def wordsJoined (s : State) : Bool :=
  s.zon.writes.isEmpty && s.zon.withheld.isNone && !bankWriteWaits s

/-! ### The flip (08 R135) -/

/-- The next generation: never 0. -/
def nextGen (g : BitVec 16) : BitVec 16 := if g + 1 = 0 then 1 else g + 1

/-- The six words of a flip, in order. -/
def flipWrites (s : State) (g : BitVec 16) : List BankWrite :=
  let at' := fun n => wordAt (stagingBase s) n
  [⟨at' 2, g.setWidth 32, false⟩,
   ⟨at' 3, ~~~s.zon.digest, false⟩,
   ⟨at' 4, BitVec.ofNat 32 s.zon.total, false⟩,
   ⟨at' 5, BitVec.ofNat 32 (6 + s.zon.used), false⟩,
   ⟨at' 1, headerWord .valid .none 0, false⟩,
   ⟨wordAt s.regions.ccp.base 26, liveWord (otherBank s.zon.liveBank) g, true⟩]

/-- FLIPPING begins to queue its words. -/
def enterFlip (s : State) : State :=
  let g := nextGen s.zon.liveGen
  pumpWrites Config.pumpFuel
    (s.setZon { s.zon with flipGen := some g, writes := flipWrites s g, after := .nothing })

/-! ### The passes (08 R130 to R134) -/

/-- The marking pass ends: FLIPPING, or in a suspension its stage (08 R134). The zoning record is queued
before the flip's words, the model's choice (log 36). -/
def endMarking (s : State) : State :=
  if s.zon.op = .suspended then publishZoning (s.setZon { s.zon with susp := some .flipping })
  else enterFlip (publishZoning (s.setZon { s.zon with op := .flipping }))

/-- The next entry of the marking pass, or its end (08 R130, R133). -/
def nextMark (s : State) : State :=
  if s.zon.entryIx = s.zon.count then endMarking s
  else if bankWords s ≤ s.zon.pos then failOperation .overrun s.zon.entryIx s
  else zonAsk s

/-- The marking pass begins: snapshot, figures, digest and position (08 R133). -/
def startMarking (s : State) : State :=
  nextMark (publishZoning (s.setZon { s.zon with
    snapshot := some (licenceSnapshot s.lic), total := 0, used := 0, masked := 0, empty := 0
    digest := crc32Init, pos := 6, entryIx := 0, prevId := 0, cur := none, after := .nothing }))

/-- The validation pass ends sound (08 R130). -/
def endValidation (s : State) : State :=
  if s.zon.op = .suspended then publishZoning (s.setZon { s.zon with susp := some .marking })
  else startMarking (s.setZon { s.zon with op := .marking })

/-- The next entry of the validation pass, or its end (08 R130). -/
def nextValidate (s : State) : State :=
  if s.zon.entryIx = s.zon.count then endValidation s
  else if bankWords s ≤ s.zon.pos then failOperation .overrun s.zon.entryIx s
  else zonAsk s

/-- The words of an entry of `c` members after its entry word. -/
def memberWords (c : Nat) : Nat := (c + 1) / 2

/-- The first fault of an entry word (08 R131). -/
def entryFault (s : State) (z c : Nat) : Option Outcome :=
  if z ≤ s.zon.prevId ∨ z = 65535 then some .zoneOrder
  else if 64 < c then some .memberCount
  else if bankWords s ≤ s.zon.pos + memberWords c then some .overrun
  else if s.params.memberLimit < s.zon.total + c then some .tooManyMembers
  else none

/-- The fault of one used member slot (08 R131). -/
def slotFault (last : Option Nat) (port : Nat) : Option Outcome :=
  if 384 ≤ port then some .memberRange
  else match last with
    | none => none
    | some l => if port ≤ l then some .memberOrder else none

/-- Whether the second slot of the next member word is used (08 R125). -/
def ZonEntry.secondUsed (e : ZonEntry) : Bool := decide (2 * e.members.length + 1 < e.count)

/-- The fault of a member word (08 R131). -/
def ZonEntry.fault (e : ZonEntry) (w : Word) : Option Outcome :=
  match slotFault e.lastMember (field w 0 9) with
  | some o => some o
  | none => if e.secondUsed then slotFault (some (field w 0 9)) (field w 16 9) else none

/-- Sets bit `n` of a word to `b`. -/
def withBit (w : Word) (n : Nat) (b : Bool) : Word :=
  if b then w ||| (1#32 <<< n) else w &&& ~~~(1#32 <<< n)

/-- A member word with its masked flags, and how many of its slots are masked (08 R133). -/
def markWord (snap : BitVec 384) (second : Bool) (w : Word) : Word × Nat :=
  let m0 := !snap.getLsbD (field w 0 9)
  let m1 := !snap.getLsbD (field w 16 9)
  let w0 := withBit w 15 m0
  if second then (withBit w0 31 m1, m0.toNat + m1.toNat) else (w0, m0.toNat)

/-- The entry buffer after a sound member word; marked when a snapshot is given. -/
def ZonEntry.take (snap : Option (BitVec 384)) (w : Word) (e : ZonEntry) : ZonEntry :=
  let second := e.secondUsed
  let m := match snap with
    | none => (w, 0)
    | some b => markWord b second w
  { e with members := e.members ++ [m.1], masked := e.masked + m.2
           lastMember := some (if second then field w 16 9 else field w 0 9) }

/-- The entry word with its masked count (08 R134, 12 section 12.6). -/
def withMaskedCount (w : Word) (n : Nat) : Word := (w &&& ~~~(0x7F#32 <<< 24)) ||| place 24 7 n

/-- The words of an entry to write back, at ascending offsets from `start`. -/
def entryWrites (base start : Nat) (ws : List Word) : List BankWrite :=
  ws.zipIdx.map fun p => ⟨wordAt base (start + p.2), p.1, false⟩

/-- What follows once the operation's words have all joined the queue. -/
def cloneHeaders (s : State) : List BankWrite :=
  let at' := fun n => wordAt (stagingBase s) n
  let h := fun n => s.zon.cloneHdr.getD n 0
  [⟨at' 0, h 1, false⟩, ⟨at' 2, h 2, false⟩, ⟨at' 3, h 3, false⟩, ⟨at' 4, h 4, false⟩,
   ⟨at' 5, h 0, false⟩, ⟨at' 1, headerWord .staged .none 0, false⟩]

/-- The used words a clone has read (08 R141). -/
def cloneUsed (z : Zoning) : Nat := (z.cloneHdr.getD 0 0).toNat

/-- A clone completes (08 R141). -/
def completeClone (s : State) : State :=
  let g : Word := s.zon.cloneHdr.getD 2 0
  let s1 := setStatus .status .zoning .done .done (g.extractLsb' 0 16) s
  let s2 := appendEvent .cloneDone (place 0 16 (field g 0 16)) (BitVec.ofNat 32 (cloneUsed s.zon)) s1
  publishZoning (s2.setZon s2.zon.ended)

/-- A clone queues its header words and completes once the last has joined (08 R141 step 4). -/
def queueCloneHeaders (s : State) : State :=
  let s1 := pumpWrites Config.pumpFuel
    (s.setZon { s.zon with writes := cloneHeaders s, after := .cloneEnd })
  if wordsJoined s1 then completeClone s1 else s1

/-- After a copied word: the next word, or the header words (08 R141). -/
def nextClone (s : State) : State :=
  if cloneUsed s.zon ≤ s.zon.pos then queueCloneHeaders s
  else zonAsk (s.setZon { s.zon with after := .nothing })

/-- Acts once every word of the operation has joined the queue. -/
def afterWords (s : State) : State :=
  if !wordsJoined s then s
  else match s.zon.after with
    | .nothing => s
    | .entryDone =>
      nextMark (s.setZon { s.zon with entryIx := s.zon.entryIx + 1, after := .nothing })
    | .cloneWord => nextClone (s.setZon { s.zon with pos := s.zon.pos + 1 })
    | .cloneEnd => completeClone s

/-- The operation goes on queuing its words, and acts when they have all joined. -/
def pump (s : State) : State := afterWords (pumpWrites Config.pumpFuel s)

/-- A fully read entry of the marking pass is written back (08 R134). -/
def writeBack (e : ZonEntry) (s : State) : State :=
  let ws := withMaskedCount e.word e.masked :: e.members
  let start := s.zon.pos - (1 + e.members.length)
  pump (s.setZon { s.zon with
    writes := entryWrites (stagingBase s) start ws, after := .entryDone, cur := none
    digest := ws.foldl crc32Word s.zon.digest, masked := s.zon.masked + e.masked
    empty := s.zon.empty + if e.masked = e.count then 1 else 0 })

/-- An entry has been read and judged; `s` stands after its last word. -/
def entryRead (e : ZonEntry) (s : State) : State :=
  if e.members.length < memberWords e.count then zonAsk (s.setZon { s.zon with cur := some e })
  else if s.zon.stage = .marking then writeBack e s
  else nextValidate (s.setZon { s.zon with cur := none, entryIx := s.zon.entryIx + 1 })

/-- An entry word arrives (08 R131). -/
def entryWord (w : Word) (s : State) : State :=
  let z := field w 0 16
  let c := field w 16 7
  match entryFault s z c with
  | some o => failOperation o s.zon.entryIx s
  | none =>
    entryRead ⟨w, c, [], 0, none⟩ (s.setZon { s.zon with
      total := s.zon.total + c, used := s.zon.used + 1 + memberWords c, prevId := z
      pos := s.zon.pos + 1 })

/-- A member word arrives (08 R131, R133). -/
def memberWord (e : ZonEntry) (w : Word) (s : State) : State :=
  match e.fault w with
  | some o => failOperation o s.zon.entryIx s
  | none =>
    entryRead (e.take (if s.zon.stage = .marking then s.zon.snapshot else none) w)
      (s.setZon { s.zon with pos := s.zon.pos + 1 })

/-- Header word 0 arrives in the validation pass (08 R130). -/
def countWord (w : Word) (s : State) : State :=
  let n := field w 0 16
  let s1 := s.setZon { s.zon with count := n, pos := 6, entryIx := 0 }
  if s.params.zoneLimit < n then failOperation .badCount n s1 else nextValidate s1

/-- A word read by a commit arrives (08 R131, R142). -/
def commitData (w : Word) (err : Bool) (s : State) : State :=
  if err then failOperation .memoryError s.zon.pos s
  else match s.zon.cur with
    | some e => memberWord e w s
    | none => if s.zon.pos = 0 then countWord w s else entryWord w s

/-- The bank word offset after a header word of the live bank that a clone reads (08 R141). -/
def cloneNext (pos : Nat) : Nat :=
  if pos = 5 then 0 else if pos = 0 then 2 else if pos = 4 then 6 else pos + 1

/-- A word read by a clone arrives (08 R141, R143). -/
def cloneData (w : Word) (err : Bool) (s : State) : State :=
  if err then failOperation .memoryError s.zon.pos s
  else if s.zon.cloneHdr.length = 0 ∧ (w.toNat < 6 ∨ bankWords s < w.toNat) then
    failOperation .overrun (min w.toNat 65535) s
  else if s.zon.cloneHdr.length < 5 then
    let s1 := s.setZon { s.zon with
      cloneHdr := s.zon.cloneHdr ++ [w], pos := cloneNext s.zon.pos }
    if s1.zon.cloneHdr.length < 5 then zonAsk s1 else nextClone s1
  else
    pump (s.setZon { s.zon with
      writes := [⟨wordAt (stagingBase s) s.zon.pos, w, false⟩], after := .cloneWord })

/-! ### Requests (08 R128, R129, R139, R140) -/

/-- The first read of a new operation is asked for once the earlier operation's bank writes are
performed or removed (08 R129). -/
def firstRead (s : State) : State :=
  if s.zon.firstReadDue && !bankWritesPending s
      && (s.zon.op == .validating || s.zon.op == .cloning) then
    zonAsk (s.setZon { s.zon with firstReadDue := false })
  else s

/-- A COMMIT or CLONE is taken: `op` is VALIDATING or CLONING, `pos` its first read (08 R129). -/
def startOperation (op : ZonState) (pos : Nat) (s : State) : State :=
  firstRead (publishZoning (setStatus .status .zoning .running .none 0
    (s.setZon { s.zon.ended with
      op := op, pos := pos, entryIx := 0, count := 0, total := 0, masked := 0, empty := 0
      used := 0, digest := crc32Init, prevId := 0, cloneHdr := [], firstReadDue := true })))

/-- What a resumed commit does next (08 R139; log 18). -/
def continueCommit (s : State) : State :=
  if s.zon.op = .marking ∧ s.zon.snapshot = none then startMarking s
  else if s.zon.withheld.isSome || !s.zon.writes.isEmpty || s.zon.after != .nothing then
    pump (s.setZon { s.zon with
      writes := s.zon.withheld.toList ++ s.zon.writes, withheld := none })
  else if s.zon.op = .flipping then (if s.zon.flipGen.isNone then enterFlip s else s)
  else if s.zon.firstReadDue then firstRead s
  else if s.tw.read.any (fun r => r.op == some .zoning) then s
  else zonAsk s

/-- A RESUME is taken (08 R139). -/
def resumeCommit (s : State) : State :=
  let s1 := setStatus .status .zoning .running .none 0 s
  continueCommit (publishZoning
    (s1.setZon { s1.zon with op := s1.zon.stage, susp := none }))

/-! ### Mastership and RESTART (08 R138, R143, R144) -/

/-- The bank write a waiting value holds. -/
def waitingBank : Waiter → Option BankWrite
  | .value e => if e.isBankWrite then some ⟨e.target, e.value, e.origin == .liveWord⟩ else none
  | .record _ _ => none
  | .publication => none

/-- A commit is suspended (08 R138). While it still waits for an earlier operation's writes, the waiting
values are that one's and stay (log 18). -/
def suspendCommit (gen : BitVec 16) (s : State) : State :=
  let stage := s.zon.op
  let own := if s.zon.firstReadDue then none else s.tw.waiting.findSome? waitingBank
  let waiting := if s.zon.firstReadDue then s.tw.waiting
    else s.tw.waiting.filter fun x => !x.isBankWrite
  let s1 := s.setTw { s.tw with
    readList := s.tw.readList.filter fun r => !(r.op == .zoning), waiting := waiting }
  let s2 := s1.setZon { s1.zon with op := .suspended, susp := some stage, withheld := own }
  publishZoning (appendEvent .commitSuspended
    (place 0 8 stage.code ||| place 16 16 s.zon.entryIx) (gen.setWidth 32) s2)

/-- The mastership unit hands a change of master side away from A or B (04 R64). -/
def masterChanged (gen : BitVec 16) (s : State) : State :=
  match s.zon.op with
  | .idle => s
  | .suspended => s
  | .validating => suspendCommit gen s
  | .marking => suspendCommit gen s
  | .flipping => if s.zon.liveQueued then s else suspendCommit gen s
  | .cloning => failOperation .abandonedMastership 0 s

/-- A RESTART is taken (08 R144). -/
def zoningRestart (s : State) : State :=
  match s.zon.op with
  | .idle => s
  | .suspended => restartOperation s
  | .validating => restartOperation s
  | .marking => restartOperation s
  | .flipping => if s.zon.liveQueued then s else restartOperation s
  | .cloning => restartOperation s

/-! ### Completion of a flip (08 R136) -/

/-- The live-word write has been performed. -/
def completeFlip (s : State) : State :=
  let old := s.zon.liveBank
  let g := s.zon.flipGen.getD s.zon.liveGen
  let cls : EntryClass := if isClosing s then .urgent else .status
  let s1 := s.setZon { s.zon with
    liveBank := otherBank old, liveGen := g
    results := ⟨s.zon.masked, s.zon.empty, g, s.zon.total⟩ }
  let s2 := putNormal .zoning (wordAt (bankBase s1.regions old) 1) (headerWord .stale .none 0) s1
  let s3 := setStatus cls .zoning .done .done g (publish cls .results s2)
  let s4 := appendEvent .commitDone
    (place 0 16 g.toNat ||| place 16 8 (otherBank old).val)
    (place 0 16 s.zon.total ||| place 16 16 s.zon.masked) s3
  publishZoning (s4.setZon s4.zon.ended)

end Sys2Proof.Machine
end

