-- ==== Sys2Proof/Machine/Mastership.lean ====
section
/-! DEFINITION. The mastership unit (04 R59 to R73). -/

namespace Sys2Proof.Machine

/-- Queues the mastership status word (04 R71). -/
def publishMastership (s : State) : State := publish .status .mastership s

/-- Whether the standby is eligible as master side, RUN line and timer stand (04 R61). -/
def derivedEligibility (s : State) : Bool :=
  match s.mast.master with
  | none => false
  | some d => runLine s.pins d.other && (s.mast.timer d.other).isRunning

/-- Hands the MASTERSHIP source to the alarm unit (04 R64). -/
def handMastership (s : State) : State :=
  setSource mastershipSource (mastershipSeverity s.mast) s

/-- Derives eligibility afresh; a changed value is published and handed on (04 R61). -/
def refreshEligibility (s : State) : State :=
  let e := derivedEligibility s
  if e = s.mast.eligible then s
  else handMastership (publishMastership (s.setMast { s.mast with eligible := e }))

/-- A running timer of the heartbeat period (04 R60). -/
def heartbeatTimer (s : State) : Timer := .running s.params.heartbeatTicks

/-- The master side, the generation and the timers after a change of master side (04 R64). -/
def Mastership.pass (new : Option Side) (period : Timer) (m : Mastership) : Mastership :=
  let m1 := { m with master := new, generation := m.generation + 1 }
  let m2 := match m.master with
    | none => m1
    | some d => m1.setTimer d .stopped
  match new with
  | none => m2
  | some d => if m2.timer d = .stopped then m2.setTimer d period else m2

/-- Asks for the MASTERSHIP event (04 R64, 12 section 12.8). -/
def appendMastership (new former : Option Side) (cause : MastCause) (s : State) : State :=
  appendEvent .mastership
    (place 0 8 (masterCode new) ||| place 8 8 (masterCode former) ||| place 16 8 cause.code)
    (s.mast.generation.setWidth 32) s

/-- A change of master side (04 R64). Its effects come in the order in which the rule lists them, the alarm
before the MASTERSHIP event, the model's choice (log 36). -/
def changeMaster (new : Option Side) (cause : MastCause) (s : State) : State :=
  let former := s.mast.master
  let s1 := s.setMast (s.mast.pass new (heartbeatTimer s))
  let s2 := s1.setMast { s1.mast with eligible := derivedEligibility s1 }
  let s3 := appendMastership new former cause (handMastership (publishMastership s2))
  match former with
  | none => s3
  | some _ => masterChanged s3.mast.generation s3

/-- The MASTERSHIP status word is set to DONE with the current generation (04 R72). -/
def answerDone (o : Outcome) (s : State) : State :=
  setStatus .status .mastership .done o s.mast.generation s

/-- The pending claim becomes absent. -/
def clearClaim (s : State) : State := s.setMast { s.mast with claim := none }

/-- A pending claim, if any, is answered DONE (04 R63). -/
def answerClaim (s : State) : State :=
  if s.mast.claim.isSome then answerDone .done (clearClaim s) else s

/-- A lapse (04 R63). The record's status word is queued after the effects of R64, the model's choice
(log 36). -/
def lapse (cause : MastCause) (s : State) : State :=
  match s.mast.master with
  | none => s
  | some d =>
    if s.mast.eligible then answerClaim (changeMaster (some d.other) cause s)
    else match s.mast.claim with
      | none => changeMaster none cause s
      | some c => answerClaim (changeMaster (some c.side) .claim (changeMaster none cause s))

/-- A counted heartbeat of a side (04 R60). -/
def heartbeatOf (d : Side) (s : State) : State :=
  if runLine s.pins d then
    refreshEligibility (s.setMast (s.mast.setTimer d (heartbeatTimer s)))
  else s

/-- A side's heartbeat timer has expired (04 R60). -/
def heartbeatExpired (d : Side) (s : State) : State :=
  if s.mast.timer d = .expired then
    let s1 := s.setMast (s.mast.setTimer d .stopped)
    if s1.mast.master = some d then lapse .expiry s1 else refreshEligibility s1
  else s

/-- A pending claim of a side is withdrawn (04 R68). -/
def withdrawClaim (d : Side) (s : State) : State :=
  match s.mast.claim with
  | none => s
  | some c => if c.side = d then answerDone .withdrawn (clearClaim s) else s

/-- A side's RUN line has deasserted; the line stands deasserted already (04 R62). Eligibility is published
and handed on before a withdrawn claim is answered, the model's choice (log 36). -/
def runLost (d : Side) (s : State) : State :=
  let s1 := s.setMast (s.mast.setTimer d .stopped)
  match s1.mast.master with
  | none => s1
  | some m => if m = d then lapse .runLost s1 else withdrawClaim d (refreshEligibility s1)

/-! ### Requests (04 R65 to R70) -/

/-- Request codes of the MASTERSHIP record (12 section 12.1). -/
def claimCode : Nat := 1
def releaseCode : Nat := 2

/-- The decision on a CLAIM from a side that is not active, the part not closing (04 R65). -/
def nonActiveRefusal (d : Side) (s : State) : Option RefuseReason :=
  if runLine s.pins d = false then some .notActive
  else if s.mast.master.isSome && s.ctl.mastership.state == .running then some .busy
  else none

/-- The decision on a CLAIM or a RELEASE from the active side, the part not closing (04 R65). -/
def activeRefusal (code : Nat) (s : State) : Option RefuseReason :=
  if code = claimCode then (if s.ctl.mastership.state = .running then some .busy else none)
  else if s.mast.eligible then none else some .noStandby

/-- Why a request to the MASTERSHIP record is refused, or `none` when it is taken: the checks of 01 R20 in its
order, NOT_ACTIVE, BAD_CODE, then BUSY while the part is closing, and those of 04 R65 after it (log 14). -/
def mastershipRefusal (d : Side) (code : Nat) (s : State) : Option RefuseReason :=
  let active := s.mast.master == some d
  if !active && code != claimCode then some .notActive
  else if code != claimCode && code != releaseCode then some .badCode
  else if isClosing s then some .busy
  else if active then activeRefusal code s
  else nonActiveRefusal d s

/-- A CLAIM with no master is granted at once (04 R66). The record's status word is queued after the effects
of R64, the model's choice (log 36). -/
def claimAtNone (d : Side) (s : State) : State := answerDone .done (changeMaster (some d) .claim s)

/-- A CLAIM from the standby becomes pending (04 R67). -/
def claimPending (d : Side) (tag : BitVec 16) (s : State) : State :=
  setStatus .status .mastership .running .none 0 (s.setMast { s.mast with claim := some ⟨d, tag⟩ })

/-- A RELEASE hands mastership to the standby (04 R70). The record's status word is queued after the effects
of R64, the model's choice (log 36). -/
def releaseFrom (d : Side) (s : State) : State :=
  answerDone .done (clearClaim (changeMaster (some d.other) .release s))

/-- A taken request to the MASTERSHIP record (04 R65). -/
def takeMastership (d : Side) (code : Nat) (tag : BitVec 16) (s : State) : State :=
  match s.mast.master with
  | none => claimAtNone d s
  | some m =>
    if m ≠ d then claimPending d tag s
    else if code = claimCode then answerDone .done s
    else releaseFrom d s

end Sys2Proof.Machine
end

