-- ==== Sys2Proof/Machine/Loader.lean ====
section
/-! DEFINITION. The descriptor loader: the load sequence and its judgement (02 R25 to R34), the entry to
SUPERVISING and its publication (R35, R36), and the RESTART request with its closing (R37, R38). -/

namespace Sys2Proof.Machine

/-! ### Load sequence (02 R25 to R28) -/

/-- Queues the verdict word as a NORMAL entry (02 R33). -/
def queueVerdict (v : Verdict) (clamps detail : Nat) (s : State) : State :=
  putNormal .loader (wordAt (descBase s.pins) 1) (verdictWord v clamps detail) s

/-- A write that touches DESC word 127 in TRANSPARENT starts a load (02 R25). -/
def startLoad (d : Side) (s : State) : State :=
  queueVerdict .loading 0 0 (s.setLdr { s.ldr with
    op := .loading, side := d, position := 0, crc := crc32Init, image := [], pctImage := []
    clampCount := 0, awaitStart := true })

/-- A load ends without acceptance (02 R26 to R28). -/
def endLoad (v : Verdict) (detail : Nat) (s : State) : State :=
  let s1 := dropReads .loader (queueVerdict v 0 detail s)
  s1.setLdr { s1.ldr with op := .transparent, awaitStart := false }

/-- The target of read `n` of the load sequence (02 R26). -/
def loadTarget (s : State) (n : Nat) : Nat :=
  if n < 128 then wordAt (descBase s.pins) n
  else if n < 512 then wordAt s.ldr.candidateRegions.pct.base (n - 128)
  else wordAt s.ldr.candidateRegions.ccp.base 26

/-- Asks for the next read of the load sequence. -/
def loadAsk (s : State) : State := askRead .loader (loadTarget s s.ldr.position) s

/-- Whether a value of the loader's waits for a free queue entry (03 R54). -/
def loaderWaits (s : State) : Bool :=
  s.tw.waiting.any fun x => match x with
    | .value e => e.origin == .loader
    | .record _ _ => false
    | .publication => false

/-- Whether the loader has a read issued or waiting. -/
def loaderReads (s : State) : Bool :=
  s.tw.read.any (fun r => r.op == some .loader) || s.tw.readList.any (fun r => r.op == .loader)

/-- The first read, once the write that started the load has been performed (02 R25). -/
def loaderFirst (s : State) : State :=
  if s.ldr.op = .loading ∧ s.ldr.awaitStart = false ∧ s.ldr.position = 0 then
    (if loaderWaits s || loaderReads s then s else loadAsk s)
  else s

/-! ### Judgement (02 R29 to R31) -/

/-- Word `n` of a descriptor image. -/
def imageWord (img : List Word) (n : Nat) : Word := img.getD n 0

/-- Region `r` of a descriptor image (12 section 12.2). -/
def imageRegion (img : List Word) (r : Nat) : Region :=
  ⟨(imageWord img (4 + 2 * r)).toNat, (imageWord img (5 + 2 * r)).toNat⟩

/-- The ring capacity field. -/
def imageCapacity (img : List Word) : Nat := field (imageWord img 57) 0 16

/-- The size of a region in bytes. -/
def Region.size (r : Region) : Nat := r.limit - r.base

/-- Whether region number `r` may be absent: LSA 1 and EVR 7 (02 R30). -/
def optionalRegion (r : Nat) : Bool := r == 1 || r == 7

/-- Whether a region's size is right for its number (02 R30). -/
def sizeRight (img : List Word) (r : Nat) : Bool :=
  let x := imageRegion img r
  let zew := imageRegion img 3
  match r with
  | 0 => decide (1536 ≤ x.size)
  | 1 => !x.present || decide (256 ≤ x.size)
  | 2 => x.size == 1024
  | 3 => decide (1024 ≤ x.size ∧ x.size ≤ 65536)
  | 4 => x.size == zew.size
  | 5 => x.size == zew.size
  | 6 => decide (512 ≤ x.size)
  | _ => !x.present || x.size == 16 * imageCapacity img

/-- Whether region number `r` has a fault of its own (02 R30). -/
def regionFaulty (size : Nat) (img : List Word) (r : Nat) : Bool :=
  let x := imageRegion img r
  (!x.present && !optionalRegion r) || x.base % 64 != 0 || x.limit % 64 != 0
    || decide (x.limit < x.base) || decide (size < x.limit) || !sizeRight img r

/-- Region number `r` for the overlap check; DESC is number 8 (02 R30). -/
def overlapRegion (pins : Pins) (img : List Word) (r : Nat) : Region :=
  if r = 8 then ⟨descBase pins, descBase pins + 512⟩ else imageRegion img r

/-- Whether two regions share a byte. -/
def Region.overlaps (x y : Region) : Bool :=
  x.present && y.present && decide (max x.base y.base < min x.limit y.limit)

/-- The lower number of the first overlapping pair (02 R30). -/
def firstOverlap (pins : Pins) (img : List Word) : Option Nat :=
  (List.range 9).find? fun i =>
    (List.range 9).any fun j =>
      decide (i < j) && (overlapRegion pins img i).overlaps (overlapRegion pins img j)

/-- The curve points of a descriptor image (12 section 12.2). -/
def imageCurve (img : List Word) : Vector CurvePoint 4 :=
  let w := imageWord img 51
  let v := imageWord img 52
  ⟨#[⟨signedByte w 0, field w 8 8⟩, ⟨signedByte w 16, field w 24 8⟩,
     ⟨signedByte v 0, field v 8 8⟩, ⟨signedByte v 16, field v 24 8⟩], rfl⟩

/-- Whether a curve point is at fault after the point before it (02 R31). -/
def pointFaulty (before p : CurvePoint) : Bool :=
  decide (p.temp ≤ before.temp) || decide (p.duty < before.duty) || decide (100 < p.duty)

/-- The first curve point at fault (02 R31). -/
def curveFault (cv : Vector CurvePoint 4) : Option Nat :=
  if 100 < (cv[0]).duty then some 0
  else if pointFaulty cv[0] cv[1] then some 1
  else if pointFaulty cv[1] cv[2] then some 2
  else if pointFaulty cv[2] cv[3] then some 3
  else none

/-- The first fault of the limits (02 R31). -/
def limitFault (img : List Word) : Option Nat :=
  if (imageRegion img 7).present && (decide (imageCapacity img < 16) || decide (1024 < imageCapacity img)) then
    some 0
  else if field (imageWord img 58) 0 16 = 0 then some 1
  else if field (imageWord img 58) 16 16 = 0 then some 2
  else if 2 < field (imageWord img 48) 0 8 then some 3
  else if 1 < field (imageWord img 48) 8 8 then some 4
  else none

/-- The verdict and detail that refuse a descriptor, or `none`; `crc` is the register after word 126
(02 R29 to R31). -/
def descriptorFault (pins : Pins) (crc : Word) (img : List Word) : Option (Verdict × Nat) :=
  if ~~~crc ≠ imageWord img 127 then some (.badCrc, 0)
  else if field (imageWord img 0) 0 16 ≠ 1 then some (.badVersion, 0)
  else match (List.range 8).find? (regionFaulty (memSize pins) img) with
    | some r => some (.badRegion, r)
    | none => match firstOverlap pins img with
      | some r => some (.badRegion, r)
      | none => match curveFault (imageCurve img) with
        | some i => some (.badCurve, i)
        | none => match limitFault img with
          | some n => some (.badLimit, n)
          | none => none

/-! ### Parameters and clamps (02 R32) -/

/-- The parameters of a descriptor image, as read (12 section 12.2). -/
def imageParams (img : List Word) : Params :=
  let w := imageWord img
  { serial := w 3 ++ w 2
    slots := Vector.ofFn fun k => ⟨(w (21 + 2 * k.val)).getLsbD 31, field (w (20 + 2 * k.val)) 0 16,
      field (w (20 + 2 * k.val)) 16 16, field (w (21 + 2 * k.val)) 0 16, field (w (21 + 2 * k.val)) 16 8⟩
    trays := Vector.ofFn fun t => ⟨field (w (36 + 2 * t.val)) 0 16, field (w (36 + 2 * t.val)) 16 16,
      (w (37 + 2 * t.val)).extractLsb' 0 8⟩
    mods := Vector.ofFn fun i => ⟨field (w (44 + i.val)) 0 16, (w (44 + i.val)).extractLsb' 16 7⟩
    redundancy := if field (w 48) 0 8 = 0 then .none else if field (w 48) 0 8 = 1 then .nPlus1 else .grid
    mode := if field (w 48) 8 8 = 0 then .fixed else .rotating
    brightness := field (w 48) 16 8
    minDuty := field (w 48) 24 8
    reserve := field (w 49) 0 16
    chassisBase := field (w 49) 16 16
    margin := field (w 50) 0 16
    curve := imageCurve img
    warn := signedByte (w 53) 0
    critical := signedByte (w 53) 8
    spinUpTicks := field (w 54) 0 16
    derateTicks := field (w 54) 16 16
    heartbeatTicks := field (w 55) 0 16
    pollTicks := field (w 55) 16 16
    kindMask := w 56
    ringCapacity := field (w 57) 0 16
    zoneLimit := field (w 58) 0 16
    memberLimit := field (w 58) 16 16
    baseGroups := (w 60).extractLsb' 0 16 ++ w 59 }

/-- The regions of a descriptor image. -/
def imageRegions (img : List Word) : Regions :=
  let r := imageRegion img
  ⟨r 0, r 1, r 2, r 3, r 4, r 5, r 6, r 7⟩

/-- A value brought into its range. -/
def clampTo (lo hi v : Nat) : Nat := max lo (min hi v)

def SlotParams.clamp (p : SlotParams) : SlotParams :=
  ⟨p.capable, clampTo 5 400 p.class1, clampTo 5 400 p.class2, clampTo 0 600 p.cardBase,
   clampTo 0 7 p.shedRank⟩

def TrayParams.clamp (p : TrayParams) : TrayParams :=
  ⟨clampTo 1000 30000 p.maxRpm, clampTo 0 300 p.maxWatts, p.cooling⟩

def ModParams.clamp (p : ModParams) : ModParams := ⟨clampTo 0 6000 p.capacity, p.address⟩

/-- The critical temperature, and the warn temperature below it (02 R32). -/
def clampCritical (critical : Int) : Int := if critical = -128 then -127 else critical
def clampWarn (warn critical : Int) : Int := if critical ≤ warn then critical - 1 else warn

/-- The clamps of an accepted descriptor (02 R32). -/
def Params.clamp (p : Params) : Params :=
  { p with
    slots := p.slots.map SlotParams.clamp, trays := p.trays.map TrayParams.clamp
    mods := p.mods.map ModParams.clamp, reserve := clampTo 0 2000 p.reserve
    chassisBase := clampTo 0 3000 p.chassisBase, margin := clampTo 0 5000 p.margin
    minDuty := clampTo 10 100 p.minDuty, spinUpTicks := clampTo 100 1000 p.spinUpTicks
    derateTicks := clampTo 100 6000 p.derateTicks
    heartbeatTicks := clampTo 10 2550 p.heartbeatTicks, pollTicks := clampTo 10 1000 p.pollTicks
    zoneLimit := clampTo 1 1024 p.zoneLimit, memberLimit := clampTo 1 16384 p.memberLimit
    brightness := clampTo 1 8 p.brightness, critical := clampCritical p.critical
    warn := clampWarn p.warn (clampCritical p.critical) }

/-- The fields that a clamp may change, one number each. -/
def Params.clampable (p : Params) : List Int :=
  p.slots.toList.flatMap (fun x => [(x.class1 : Int), x.class2, x.cardBase, x.shedRank])
  ++ p.trays.toList.flatMap (fun x => [(x.maxRpm : Int), x.maxWatts])
  ++ p.mods.toList.map (fun x => (x.capacity : Int))
  ++ [(p.reserve : Int), p.chassisBase, p.margin, p.minDuty, p.spinUpTicks, p.derateTicks,
      p.heartbeatTicks, p.pollTicks, p.zoneLimit, p.memberLimit, p.brightness, p.critical, p.warn]

/-- The number of fields that the clamps change, up to 255 (02 R32). -/
def Params.clampCount (p : Params) : Nat :=
  min 255 ((p.clampable.zip p.clamp.clampable).countP fun x => x.1 != x.2)

/-! ### Load read data (02 R26, R28) -/

/-- Descriptor word 127 has arrived: the descriptor is judged, and clamped when it is accepted. -/
def judgeDescriptor (s : State) : State :=
  match descriptorFault s.pins s.ldr.crc s.ldr.image with
  | some f => endLoad f.1 f.2 s
  | none =>
    let p := imageParams s.ldr.image
    loadAsk (s.setLdr { s.ldr with
      candidate := p.clamp, candidateRegions := imageRegions s.ldr.image, clampCount := p.clampCount })

/-- A descriptor word arrives (02 R26 step 1). -/
def descriptorData (w : Word) (s : State) : State :=
  let n := s.ldr.position
  let s1 := s.setLdr { s.ldr with
    image := s.ldr.image ++ [w], position := n + 1
    crc := if n = 1 ∨ n = 127 then s.ldr.crc else crc32Word s.ldr.crc w }
  if n = 127 then judgeDescriptor s1 else loadAsk s1

/-- A PCT word arrives (02 R26 step 2). -/
def pctData (w : Word) (s : State) : State :=
  loadAsk (s.setLdr { s.ldr with
    pctImage := s.ldr.pctImage ++ [⟨w.getLsbD 0, w.extractLsb' 1 2⟩], position := s.ldr.position + 1 })

/-! ### The entry to SUPERVISING (02 R35) -/

/-- The live bank and generation that the zoning unit takes from the live word (02 R34). -/
def takenLive (w : Word) : Fin 2 × BitVec 16 :=
  if field w 0 8 = 0 then (0, w.extractLsb' 16 16)
  else if field w 0 8 = 1 then (1, w.extractLsb' 16 16)
  else (0, 0)

/-- A port's entry before the first settle (07 R104). -/
def entryPort (p : Params) (g : Governor) (base : BitVec 48) (img : List PctFields) (q : Port) : PortEntry :=
  let f := img.getD q.val ⟨false, 0⟩
  { desired := f.desired, speed := f.speed, effective := false
    reason := if !slotUp p g (slotOf q) then .slotEmpty else if f.desired then .none else .notRequested
    source := if base.getLsbD (groupOf q) then .base else .none }

/-- The governor before the first settle (06 R93, 07 R104). -/
def entryGovernor (s : State) (p : Params) : Governor :=
  let g := { Governor.powerOn with
    slotPresent := s.pins.slotPres, trayPresent := s.pins.trayPres }
  let ports := Vector.ofFn (entryPort p g p.baseGroups s.ldr.pctImage)
  Governor.recompute p { g with
    ports := ports
    held := allPorts.filter fun q => (ports[q]).desired && slotUp p g (slotOf q) }

/-- The mastership unit at the entry: the loading side is master, its timer runs (04 R59). -/
def entryMastership (d : Side) (p : Params) : Mastership :=
  Mastership.setTimer { Mastership.powerOn with master := some d } d (.running p.heartbeatTicks)

/-- Every unit's starting values, before the first settle (02 R35). -/
def entryUnits (w : Word) (s : State) : State :=
  let p := s.ldr.candidate
  let l := takenLive w
  let s1 := ((s.setParams p).setRegions s.ldr.candidateRegions).setGov (entryGovernor s p)
  let s2 := (s1.setMast (entryMastership s.ldr.side p)).setLic { Licence.powerOn with base := p.baseGroups }
  let s3 := s2.setZon { Zoning.powerOn with liveBank := l.1, liveGen := l.2 }
  let s4 := (s3.setPort { s3.port with mode := p.mode }).setRing Ring.powerOn
  let s5 := s4.setTime { s4.time with seconds := 0, hourCount := 0, secondDue := false, hourDue := false }
  (List.finRange 4).foldl startTray (s5.setLdr { s5.ldr with op := .supervising })

/-- The first settle: it sets reasons, counts and the BUDGET inputs. The images that it queues, and the
alarm unit's conditions, follow at the end of the entry event (log 10). -/
def entrySettle (s : State) : State :=
  let t := settle s
  (((t.setTw s.tw).setRing s.ring).setAlm { s.alm with
    inPower := t.alm.inPower, inShed := t.alm.inShed, inZero := t.alm.inZero })

/-- The loading side's RUN line stands deasserted at the entry (04 R59): the lapse of R63, whose event
follows DESCRIPTOR_TAKEN. The mastership status word and the alarm unit's condition follow at the end of
the entry event (log 10). -/
def entryLapse (s : State) : State :=
  if runLine s.pins s.ldr.side then s
  else appendMastership none (some s.ldr.side) .runLost
    (s.setMast (runLost s.ldr.side s).mast)

/-- The condition of a source as the units stand at the entry (11 R173). -/
def entryCondition (s : State) (src : Source) : Severity :=
  if h : 8 ≤ src.val ∧ src.val < 12 then
    let t : TrayIx := ⟨src.val - 8, by omega⟩
    traySeverity s.params t (s.fan.trays[t]).state
  else if src = thermalSource then thermalSeverity s.params s.alm.tc
  else if src = budgetSource then budgetSeverity s.alm
  else if src = licenseSource then licenseSeverity s.lic
  else if src = mastershipSource then mastershipSeverity s.mast
  else .none

/-- Raises a source's entry at the entry to SUPERVISING (11 R173, R175). -/
def entryAlarm (s : State) (src : Source) : State :=
  let v := entryCondition s src
  if v = .none then s else listEffect src v (s.setAlm { s.alm with conds := upd s.alm.conds src v })

/-- The alarm unit at the entry: an entry for each source above NONE, in ascending number (11 R173). -/
def entryAlarms (s : State) : State :=
  let s1 := (List.finRange 20).foldl entryAlarm s
  s1.setAlm (redrivePattern s1.alm)

/-- The records whose images the entry event hands to the table writer where it has changed them, before
and behind the budget record (log 10). -/
def entryRecordsFirst : List RecordId := .mastership :: allPorts.map RecordId.port
def entryRecordsLast : List RecordId :=
  [.licence, .zoning, .tray 0, .tray 1, .tray 2, .tray 3, .fan, .module 0, .module 1, .module 2,
   .module 3, .link]

/-- The images that the entry event queues as STATUS entries: each record of which it has changed a field
(04 R71, 05 R91, 07 R106, 08 R127, 09 R160, 10 R172), the budget record of the first settle (07 R109), and
the changed words of the alarm list (11 R180); `former` is the part before the event (order, log 10). -/
def entryImages (former s : State) : State :=
  let s1 := entryRecordsFirst.foldl (fun x r => publishIfChanged r former x) s
  let s2 := entryRecordsLast.foldl (fun x r => publishIfChanged r former x) (publish .status .budget s1)
  publishChanged .alarms (recordWords former .alarms) s2

/-- The entry publication begins; its entries are queued as the write queue has room (02 R36). -/
def beginPublication (s : State) : State :=
  (s.setLdr { s.ldr with pub := some 0 }).setTw { s.tw with waiting := s.tw.waiting ++ [.publication] }

/-- The live word has arrived: the part enters SUPERVISING (02 R35; order of events, log 10). -/
def enterSupervising (w : Word) (s : State) : State :=
  let s1 := entrySettle (entryUnits w s)
  let s2 := appendEvent .descriptorTaken (place 0 8 (Side.code s1.ldr.side)) (BitVec.ofNat 32 s1.ldr.clampCount) s1
  beginPublication (entryImages (s.setRegions s.ldr.candidateRegions)
    (startRound (entryAlarms (entryLapse s2))))

/-- The data of a load read arrives (02 R26, R28). -/
def loadData (w : Word) (err : Bool) (s : State) : State :=
  if err then endLoad .memoryError s.ldr.position s
  else if s.ldr.position < 128 then descriptorData w s
  else if s.ldr.position < 512 then pctData w s
  else enterSupervising w s

/-! ### The entry publication (02 R36) -/

/-- The CCP word that entry `i` of the publication writes, i in 0..249: every word but 0, 4, 8, 12, 24
and 25. -/
def pubCcpWord (i : Nat) : Nat :=
  if i < 3 then i + 1 else if i < 6 then i + 2 else if i < 9 then i + 3 else if i < 20 then i + 4 else i + 6

/-- The number of entries of the publication. -/
def pubCount (s : State) : Nat :=
  if s.regions.lsa.present then Config.publicationWithLsa else Config.publicationWithoutLsa

/-- The word that entry `j` of step 2 writes: status and refused words of the slots. -/
def pubSlotWord (s : State) (j : Nat) : RecWord :=
  let k : SlotIx := Fin.ofNat 8 (j / 2)
  if j % 2 = 0 then fullWord (ctlAddr s.regions (.slot k) 1) (statusWord s (.slot k))
  else fullWord (ctlAddr s.regions (.slot k) 2) (refusedWord s (.slot k))

/-- The word that entry `j` of steps 3 to 5 writes, with LSA left out of the count. -/
def pubTailWord (s : State) (j : Nat) : RecWord :=
  if j < 384 then
    let q : Port := Fin.ofNat 384 j
    ⟨wordAt s.regions.pct.base j, portWord s.gov q, 0b1100⟩
  else if j < 512 then fullWord (wordAt s.regions.esa.base (j - 384)) (esaWord s (j - 384))
  else fullWord (wordAt (descBase s.pins) 1) (verdictWord .accepted s.ldr.clampCount 0)

/-- The word that entry `i` of the publication writes, with its value as the units now stand. -/
def pubWord (s : State) (i : Nat) : RecWord :=
  if i < 250 then fullWord (wordAt s.regions.ccp.base (pubCcpWord i)) (ccpWord s (pubCcpWord i))
  else if s.regions.lsa.present then
    (if i < 266 then pubSlotWord s (i - 250) else pubTailWord s (i - 266))
  else pubTailWord s (i - 250)

/-- The publication's next entry joins the queue; the publication goes on waiting behind the other
waiting values, or ends (02 R36, 03 R54). -/
def publishNext (i : Nat) (s : State) : State :=
  let last := decide (pubCount s ≤ i + 1)
  let t := (s.tw.join (s.tw.fresh .normal (if last then .publicationEnd else .publication) (pubWord s i))).bump
  if last then (s.setTw t).setLdr { s.ldr with pub := none }
  else (s.setTw { t with waiting := t.waiting ++ [.publication] }).setLdr { s.ldr with pub := some (i + 1) }

/-! ### RESTART (02 R37) -/

/-- An INSTALL in progress ends ABORTED_RESTART (05 R80). -/
def abortInstall (s : State) (k : SlotIx) : State :=
  if (s.lic.slots[k]).state = .installing then
    setStatus .urgent (.slot k) .done .abortedRestart 0
      (dropReads (.install k) (setSlot k ⟨.rejected, none, 0, []⟩ s))
  else s

/-- A pending claim is answered ABORTED_RESTART (04 R73). -/
def abortClaim (s : State) : State :=
  if s.mast.claim.isSome then
    setStatus .urgent .mastership .done .abortedRestart 0 (clearClaim s)
  else s

/-- Whether the ACCEPTED verdict of the publication is still to be performed (02 R36). -/
def verdictDue (s : State) : Bool :=
  s.ldr.pub.isSome || s.tw.queue.any (fun e => e.origin == .publicationEnd)

/-- The verdict word of a publication that a RESTART cuts short (02 R36). -/
def verdictRecWord (s : State) : RecWord :=
  fullWord (wordAt (descBase s.pins) 1) (verdictWord .accepted s.ldr.clampCount 0)

/-- Hands the table writer one URGENT value of the RESTART; it waits at the loader when the queue is
full (03 R52, R54). -/
def TableWriter.putUrgent (t : TableWriter) (o : Origin) (w : RecWord) : TableWriter :=
  if t.holdsFor w.target then t.coalesce .urgent w
  else if t.full then
    TableWriter.bump { t with waiting := t.waiting ++ [Waiter.value (t.fresh .urgent o w)] }
  else (t.join (t.fresh .urgent o w)).bump

/-- A RESTART cuts the entry publication short (02 R36). -/
def cutPublication (s : State) : State :=
  if verdictDue s then
    let t := { s.tw with waiting := s.tw.waiting.filter fun x => !(x == Waiter.publication) }
    (s.setTw (t.putUrgent .restart (verdictRecWord s))).setLdr { s.ldr with pub := none }
  else s

/-- The serial numbers of the URGENT entries and of the URGENT values that wait. -/
def urgentIds (t : TableWriter) : List Nat :=
  (t.queue.filter fun e => e.cls == .urgent).map (·.id)
  ++ t.waiting.filterMap fun x => match x with
    | .value e => if e.cls = .urgent then some e.id else none
    | .record _ _ => none
    | .publication => none

/-- The serial numbers of the live-word entry and of every entry queued before it. -/
def liveIds (q : List Entry) : List Nat :=
  match q.findIdx? (fun e => e.origin == .liveWord) with
  | none => []
  | some n => (q.take (n + 1)).map (·.id)

/-- The part becomes closing; it waits for the writes of 02 R37. -/
def beginClosing (s : State) : State :=
  s.setLdr { s.ldr with
    tvalid := false
    closing := some (urgentIds s.tw ++ if s.zon.liveQueued then liveIds s.tw.queue else []) }

/-- A RESTART is taken (02 R37). The URGENT status words of the ended operations are queued slots 0 to 7
first, then ZONING, MASTERSHIP, RESTART and the verdict of a publication cut short, the model's choice
(log 36). -/
def restartTaken (s : State) : State :=
  let s1 := (List.finRange 8).foldl abortInstall s
  let s2 := abortClaim (zoningRestart s1)
  let s3 := setStatus .urgent .restart .done .done 0 s2
  beginClosing (cutPublication s3)

/-! ### Closing (02 R37, R38) -/

/-- Whether a serial number is still in the queue or waits. -/
def TableWriter.pendingId (t : TableWriter) (n : Nat) : Bool :=
  t.queue.any (fun e => e.id == n) || t.waiting.any fun x => match x with
    | .value e => e.id == n
    | .record _ _ => false
    | .publication => false

/-- Whether every write that the closing waits for has been performed (02 R38). -/
def closingDone (s : State) : Bool :=
  match s.ldr.closing with
  | none => false
  | some ids => ids.all fun n => !s.tw.pendingId n

/-- The supervisor buses with no write held upstream. -/
def Buses.released (b : Buses) : Buses := ⟨{ b.a with held := none }, { b.b with held := none }⟩

/-- The closing ends (02 R38). A closing outlasts the flip that holds writes upstream (01 R13, 02 R37), so
none is held then. -/
def closingEnd (s : State) : State :=
  { State.powerOn s.pending s.mem s.pins with
    time := { TimeBase.powerOn with refCount := s.time.refCount }
    port := { s.port with mode := .rotating, rotation := [.spa, .spb, .tw] }
    tw := { TableWriter.powerOn with
      read := s.tw.read.map fun r => { r with op := none }
      nextId := s.tw.nextId }
    mdl := s.mdl.closed
    bus := s.bus.released }

/-- The targets of a commit's closing writes: the result words and the status word (02 R37). -/
def isFlipClosing (r : Regions) (target : Nat) : Bool :=
  target == ctlAddr r .zoning 1 || ([16, 17, 18, 19].any fun n => target == wordAt r.ccp.base n)

/-- The closing also waits for the URGENT closing writes of a commit that has just completed (02 R37). -/
def awaitFlipWrites (s : State) : State :=
  match s.ldr.closing with
  | none => s
  | some ids =>
    let q := (s.tw.queue.filter fun e => e.cls == .urgent && isFlipClosing s.regions e.target).map (·.id)
    let w := s.tw.waiting.filterMap fun x => match x with
      | .value e => if e.cls = .urgent ∧ isFlipClosing s.regions e.target then some e.id else none
      | .record _ _ => none
      | .publication => none
    s.setLdr { s.ldr with closing := some (ids ++ q ++ w) }

end Sys2Proof.Machine
end

