-- ==== Sys2Proof/Machine/Classifier.lean ====
section
/-! DEFINITION. The access classifier: regions, writers, the handling of every word, bursts, and the requests
of the control records (01 R1 to R22). -/

namespace Sys2Proof.Machine

/-! ### Buses -/

/-- The bus of a side. -/
def Buses.get (b : Buses) : Side → SideBus
  | .a => b.a
  | .b => b.b

/-- Replaces the bus of a side. -/
def Buses.set (b : Buses) (x : SideBus) : Side → Buses
  | .a => { b with a := x }
  | .b => { b with b := x }

/-- The access of a side that waits at the arbiter. -/
def PortArb.wait (p : PortArb) : Side → Option Access
  | .a => p.waitA
  | .b => p.waitB

/-- Replaces the access of a side that waits at the arbiter. -/
def PortArb.setWait (p : PortArb) (x : Option Access) : Side → PortArb
  | .a => { p with waitA := x }
  | .b => { p with waitB := x }

/-- Whether an access of a side is in progress on the port. -/
def PortArb.serves (p : PortArb) (d : Side) : Bool :=
  match p.current with
  | some (.up e _) => e == d
  | some (.twWrite _) => false
  | some .twRead => false
  | none => false

/-- Whether a side's bus has an access that has not completed upstream (03 R43; log 5). -/
def busBusy (s : State) (d : Side) : Bool :=
  (s.port.wait d).isSome || s.port.serves d || ((s.bus.get d).held).isSome

/-- Completes an access upstream. -/
def complete (d : Side) (c : Completion) (s : State) : State :=
  s.setBus (s.bus.set { s.bus.get d with done := c } d)

/-- An access goes to the port arbiter (03 R43). -/
def forward (d : Side) (a : Access) (s : State) : State :=
  s.setPort (s.port.setWait (some a) d)

/-! ### Regions (01 R2) -/

/-- Where an address lies. -/
inductive Area where
  | desc | pct | lsa | ccp | zew | bank | esa | evr | open
  deriving DecidableEq, Repr

/-- DESC (01 R7). -/
def descRegion (pins : Pins) : Region := ⟨descBase pins, descBase pins + 512⟩

/-- The area of an address (01 R2). -/
def areaOf (s : State) (a : Nat) : Area :=
  let r := s.regions
  if (descRegion s.pins).holds a then .desc
  else if r.pct.holds a then .pct
  else if r.lsa.holds a then .lsa
  else if r.ccp.holds a then .ccp
  else if r.zew.holds a then .zew
  else if r.zb0.holds a || r.zb1.holds a then .bank
  else if r.esa.holds a then .esa
  else if r.evr.holds a then .evr
  else .open

/-- The number of the word at an address, from a base. -/
def wordNo (base a : Nat) : Nat := (a - base) / 4

/-- The address of a word; an access is addressed by whole words (log 19). -/
def wordAddr (a : Nat) : Nat := a / 4 * 4

/-- The word at place `i` of a burst: four words that wrap in an aligned 16-byte block (01 R14). -/
def burstAddr (a i : Nat) : Nat := a / 16 * 16 + (a % 16 / 4 + i) % 4 * 4

/-- The word addresses of a read. -/
def readAddrs (a : Nat) (burst : Bool) : List Nat :=
  if burst then [burstAddr a 0, burstAddr a 1, burstAddr a 2, burstAddr a 3] else [a]

/-- The words of a write, each with its address, in burst order. -/
def writeWords (a : Nat) : WriteData → List (Nat × WriteWord)
  | .single w => [(a, w)]
  | .burst w0 w1 w2 w3 => [(burstAddr a 0, w0), (burstAddr a 1, w1), (burstAddr a 2, w2), (burstAddr a 3, w3)]

/-- A word forwarded as given. -/
def plainOp (a : Nat) (w : WriteWord) : WordOp := ⟨.plain a, w.value, w.enables, none⟩

/-- A word of a burst with cleared enables (01 R14). -/
def clearedOp (a : Nat) (w : WriteWord) : WordOp := ⟨.plain a, w.value, 0, none⟩

/-- The edit window's target for an address, as the region map stands (01 R12). -/
def windowTarget (r : Regions) (a : Nat) : Target := .window (a - r.zew.base) r.zb0.base r.zb1.base

/-! ### Requests (01 R20, R21) -/

/-- The fields of a request word (12 section 12.3). -/
def reqCode (w : Word) : Nat := field w 0 8
def reqSource (w : Word) : Nat := field w 8 8
def reqTag (w : Word) : BitVec 16 := w.extractLsb' 16 16

/-- Whether a record's status state is RUNNING. -/
def recordRunning (s : State) (c : CtlId) : Bool := (ctlRec s.ctl c).state == .running

/-- Why a request to the ZONING record is refused (08 R128). -/
def zoningRefusal (code : Nat) (s : State) : Option RefuseReason :=
  if code < 1 ∨ 4 < code then some .badCode
  else if isClosing s then some .busy
  else match s.zon.op with
    | .idle => if 3 ≤ code then some .nothingSuspended else none
    | .suspended => if code ≤ 2 then some .suspended else none
    | .validating => some .busy
    | .marking => some .busy
    | .flipping => some .busy
    | .cloning => some .busy

/-- An ABANDON is taken (08 R140). -/
def abandonCommit (s : State) : State := failOperation .abandoned 0 s

/-- A taken request to the ZONING record (08 R129, R139, R140). -/
def takeZoning (code : Nat) (s : State) : State :=
  if code = 1 then startOperation .validating 0 s
  else if code = 2 then startOperation .cloning 5 s
  else if code = 3 then resumeCommit s
  else abandonCommit s

/-- Why a request to the RESTART record is refused (02 R37). -/
def restartRefusal (code : Nat) (s : State) : Option RefuseReason :=
  if code ≠ 1 then some .badCode
  else if isClosing s || recordRunning s .restart then some .busy
  else none

/-- Why a request to the ALARM_ACK record is refused (11 R177). -/
def ackRefusal (code source : Nat) (s : State) : Option RefuseReason :=
  if code ≠ 1 then some .badCode
  else if isClosing s || recordRunning s .alarmAck then some .busy
  else if source = 255 then none
  else if s.alm.list.any (fun e => e.source.val == source) then none
  else some .notRaised

/-- A taken ACK (11 R177); its status word is queued before the alarm words, the model's choice (log 36). -/
def takeAck (source : Nat) (s : State) : State :=
  acknowledge (fun e => source == 255 || e.source.val == source)
    (setStatus .status .alarmAck .done .done (BitVec.ofNat 16 source) s)

/-- Why a request to a slot's record is refused (05 R78). -/
def slotRefusal (k : SlotIx) (code : Nat) (s : State) : Option RefuseReason :=
  if code ≠ 1 ∧ code ≠ 2 then some .badCode
  else if isClosing s || recordRunning s (.slot k) then some .busy
  else match (s.lic.slots[k]).state with
    | .empty => if code = 1 then none else some .slotEmpty
    | .installing => some .busy
    | .active => if code = 1 then some .slotOccupied else none
    | .expired => if code = 1 then some .slotOccupied else none
    | .rejected => none

/-- A taken request to a slot's record (05 R79, R84). -/
def takeSlot (k : SlotIx) (code : Nat) (s : State) : State :=
  if code = 1 then startInstall k s else removeGrant k s

/-- Why a full-word request is refused, or `none` when it is taken (01 R20). -/
def refusal (c : CtlId) (d : Side) (w : Word) (s : State) : Option RefuseReason :=
  match c with
  | .mastership => mastershipRefusal d (reqCode w) s
  | .zoning => zoningRefusal (reqCode w) s
  | .restart => restartRefusal (reqCode w) s
  | .alarmAck => ackRefusal (reqCode w) (reqSource w) s
  | .slot k => slotRefusal k (reqCode w) s

/-- What the owning unit does when it takes a request (01 R20). -/
def takeRequest (c : CtlId) (d : Side) (w : Word) (s : State) : State :=
  match c with
  | .mastership => takeMastership d (reqCode w) (reqTag w) s
  | .zoning => takeZoning (reqCode w) s
  | .restart => restartTaken s
  | .alarmAck => takeAck (reqSource w) s
  | .slot k => takeSlot k (reqCode w) s

/-! ### The handling of a word (01 R3 to R15) -/

/-- What a decided word leaves: the state, and the word to perform; `none` for a word that is dropped
or refused. -/
abbrev Decided := State × Option WordOp

/-- A dropped word (01 R16). -/
def dropped (d : Side) (a : Nat) (r : DropReason) (s : State) : Decided := (dropWrite d a r s, none)

/-- A word that passes as given. -/
def passed (a : Nat) (w : WriteWord) (s : State) : Decided := (s, some (plainOp a w))

/-- A write to a request word (01 R15, R20, R21). -/
def requestWord (c : CtlId) (d : Side) (a : Nat) (w : WriteWord) (s : State) : Decided :=
  if w.enables ≠ 0b1111 then dropped d a .partialRequest s
  else match refusal c d w.value s with
    | some r => (refuse c (reqTag w.value) r s, none)
    | none => passed a w (takeRequest c d w.value s)

/-- Whether a value lies in the unconsumed span (11 R182); with EVR absent only 0 does (01 R11). -/
def inSpan (s : State) (v : Nat) : Bool :=
  let cap := s.params.ringCapacity
  let c := s.ring.consumer
  if !s.regions.evr.present then v == 0
  else decide (v < cap) && decide ((v + cap - c) % cap ≤ (s.ring.producer + cap - c) % cap)

/-- A write to the consumer index (01 R11, 11 R182). -/
def consumerWord (d : Side) (a : Nat) (w : WriteWord) (s : State) : Decided :=
  if w.enables = 0b1111 ∧ inSpan s w.value.toNat = true then
    passed a w (s.setRing { s.ring with consumer := w.value.toNat })
  else dropped d a .partOwned s

/-- A write to the heartbeat word of `owner` (01 R10). -/
def heartbeatWord (owner d : Side) (a : Nat) (w : WriteWord) (s : State) : Decided :=
  if owner = d then passed a w (heartbeatOf d s) else dropped d a .partOwned s

/-- A write to CCP word `n` (01 R10). -/
def ccpWrite (d : Side) (n a : Nat) (w : WriteWord) (s : State) : Decided :=
  if n = 0 then requestWord .mastership d a w s
  else if n = 4 then requestWord .zoning d a w s
  else if n = 8 then requestWord .restart d a w s
  else if n = 12 then requestWord .alarmAck d a w s
  else if n = 24 then heartbeatWord .a d a w s
  else if n = 25 then heartbeatWord .b d a w s
  else if n = 28 then consumerWord d a w s
  else dropped d a .partOwned s

/-- A write to LSA word `n` (01 R9). -/
def lsaWrite (d : Side) (n a : Nat) (w : WriteWord) (s : State) : Decided :=
  if 64 ≤ n then passed a w s
  else
    let k : SlotIx := Fin.ofNat 8 (n / 8)
    if n % 8 = 0 then requestWord (.slot k) d a w s
    else if n % 8 ≤ 2 then dropped d a .partOwned s
    else if (s.lic.slots[k]).state = .installing then dropped d a .partOwned s
    else passed a w s

/-- The classifier hands a port's desired state and speed code when byte 0 is enabled and either
differs (01 R8). -/
def handPctByte (q : Port) (w : WriteWord) (s : State) : State :=
  let e := s.gov.ports[q]
  if w.enables.getLsbD 0 ∧ (w.value.getLsbD 0 ≠ e.desired ∨ w.value.extractLsb' 1 2 ≠ e.speed) then
    handPort q (w.value.getLsbD 0) (w.value.extractLsb' 1 2) s
  else s

/-- A write to PCT word `n` (01 R8). -/
def pctWrite (n a : Nat) (w : WriteWord) (s : State) : Decided :=
  if h : n < 384 then
    (handPctByte ⟨n, h⟩ w s, some ⟨.plain a, w.value, w.enables ||| 0b1100, some ⟨n, h⟩⟩)
  else passed a w s

/-- Whether a write through the edit window to a word that passes ends the operation (01 R13). -/
def editAborts (z : Zoning) : Bool :=
  match z.op with
  | .idle => false
  | .suspended => false
  | .validating => true
  | .marking => true
  | .flipping => !z.liveQueued
  | .cloning => true

/-- A write through the edit window to bank word `n`, when it is not held (01 R13). -/
def zewWord (d : Side) (n a : Nat) (w : WriteWord) (s : State) : Decided :=
  if s.zon.op = .suspended then dropped d a .stagingSuspended s
  else if 1 ≤ n ∧ n ≤ 5 then dropped d a .partOwned s
  else
    (if editAborts s.zon then failOperation .abortedEdit n s else s,
     some ⟨windowTarget s.regions a, w.value, w.enables, none⟩)

/-- A write by a permitted writer, by region and word (01 R3 step 3). -/
def permitted (d : Side) (a : Nat) (w : WriteWord) (s : State) : Decided :=
  match areaOf s a with
  | .desc => dropped d a .lockedDescriptor s
  | .pct => pctWrite (wordNo s.regions.pct.base a) a w s
  | .lsa => lsaWrite d (wordNo s.regions.lsa.base a) a w s
  | .ccp => ccpWrite d (wordNo s.regions.ccp.base a) a w s
  | .zew => zewWord d (wordNo s.regions.zew.base a) a w s
  | .bank => dropped d a .partOwned s
  | .esa => dropped d a .partOwned s
  | .evr => dropped d a .partOwned s
  | .open => passed a w s

/-- Whether a write from a side that is not active is exempt from the side filter: its own heartbeat
word, the MASTERSHIP request word, an OPEN address (01 R4, R5). -/
def exempt (s : State) (d : Side) (a : Nat) : Bool :=
  match areaOf s a with
  | .open => true
  | .ccp =>
    let n := wordNo s.regions.ccp.base a
    n == 0 || n == (match d with | .a => 24 | .b => 25)
  | .desc => false
  | .pct => false
  | .lsa => false
  | .zew => false
  | .bank => false
  | .esa => false
  | .evr => false

/-- Why the side filter drops a write, if it does (01 R4, R5). -/
def sideFilter (s : State) (d : Side) (a : Nat) : Option DropReason :=
  match s.mast.master with
  | none => if exempt s d a then none else some .noMaster
  | some m => if m = d ∨ exempt s d a = true then none else some .standby

/-- Decides one word of a write in SUPERVISING (01 R3). -/
def decideWord (d : Side) (a : Nat) (w : WriteWord) (s : State) : Decided :=
  match sideFilter s d a with
  | some r => dropped d a r s
  | none => permitted d a w s

/-- Whether a write through the edit window is held upstream (01 R13). -/
def isHeld (s : State) (d : Side) (a : Nat) : Bool :=
  (areaOf s a == .zew) && (s.mast.master == some d) && s.zon.op == .flipping && s.zon.liveQueued

/-! ### Writes and reads -/

/-- Decides the words of a burst in burst order, with the words to perform so far (01 R14). Each word is
filtered by the master side that the words before it have left, the model's choice (01 R5; log 37). -/
def burstStep (d : Side) (acc : State × List WordOp × Bool) (x : Nat × WriteWord) :
    State × List WordOp × Bool :=
  let r := decideWord d x.1 x.2 acc.1
  match r.2 with
  | some op => (r.1, acc.2.1 ++ [op], true)
  | none => (r.1, acc.2.1 ++ [clearedOp x.1 x.2], acc.2.2)

/-- A write in SUPERVISING (01 R3, R14). -/
def classifyWrite (d : Side) (a : Nat) (data : WriteData) (lock : Bool) (s : State) : State :=
  if isHeld s d a then s.setBus (s.bus.set { s.bus.get d with held := some ⟨a, data, lock⟩ } d)
  else
    let r := (writeWords a data).foldl (burstStep d) (s, [], false)
    if r.2.2 then forward d ⟨a, lock, false, .write r.2.1⟩ r.1 else complete d .write r.1

/-- The address of the first word of a write that lies at DESC word 127, or in DESC at all. -/
def touchesLast (pins : Pins) (ws : List (Nat × WriteWord)) : Bool :=
  ws.any fun x => x.1 == wordAt (descBase pins) 127

/-- A DESC write is reported to the loader (01 R7): it starts a load in TRANSPARENT and ends one in
LOADING. Answers whether it has started one. -/
def reportDesc (d : Side) (a : Nat) (ws : List (Nat × WriteWord)) (s : State) : State × Bool :=
  match s.ldr.op with
  | .transparent => if touchesLast s.pins ws then (startLoad d s, true) else (s, false)
  | .loading =>
    if (descRegion s.pins).holds a then
      (endLoad .descriptorChanged (wordNo (descBase s.pins) a) s, false)
    else (s, false)
  | .supervising => (s, false)

/-- A write that passes raw (01 R1); under BYPASS it is not reported (R18). -/
def rawWrite (d : Side) (a : Nat) (data : WriteData) (lock : Bool) (s : State) : State :=
  let ws := writeWords a data
  let r := if s.pins.bypass then (s, false) else reportDesc d a ws s
  forward d ⟨a, lock, r.2, .write (ws.map fun x => plainOp x.1 x.2)⟩ r.1

/-- Whether accesses are classified (01 R1, R18). -/
def classifies (s : State) : Bool := supervising s && !s.pins.bypass

/-- A write arrives from a side (01 R1, R2). -/
def writeArrives (d : Side) (addr : Nat) (data : WriteData) (lock : Bool) (s : State) : State :=
  let a := wordAddr addr
  if memSize s.pins ≤ a then complete d .write s
  else if classifies s then classifyWrite d a data lock s
  else rawWrite d a data lock s

/-- The target of a read: the edit window is translated when accesses are classified (01 R12). -/
def readTarget (s : State) (whole a : Nat) : Target :=
  if classifies s && (areaOf s whole == .zew) then windowTarget s.regions a else .plain a

/-- A read arrives from a side (01 R1 to R3). -/
def readArrives (d : Side) (addr : Nat) (burst lock : Bool) (s : State) : State :=
  let a := wordAddr addr
  let as' := readAddrs a burst
  if memSize s.pins ≤ a then complete d (.read (as'.map fun _ => (0, true))) s
  else forward d ⟨a, lock, false, .read (as'.map (readTarget s a))⟩ s

/-- A write is presented on a side's bus; a bus whose access has not completed presents none
(03 R43; log 5). -/
def presentWrite (d : Side) (addr : Nat) (data : WriteData) (lock : Bool) (s : State) : State :=
  if busBusy s d then s else writeArrives d addr data lock s

/-- A read is presented on a side's bus. -/
def presentRead (d : Side) (addr : Nat) (burst lock : Bool) (s : State) : State :=
  if busBusy s d then s else readArrives d addr burst lock s

/-- A held write is classified afresh, under BYPASS too: only an access that arrives while BYPASS is asserted
passes raw (01 R13, R18, 08 R136). -/
def releaseHeld (d : Side) (s : State) : State :=
  match (s.bus.get d).held with
  | none => s
  | some h =>
    classifyWrite d (wordAddr h.addr) h.data h.lock (s.setBus (s.bus.set { s.bus.get d with held := none } d))

/-! ### The addresses of the named writes (log 21) -/

/-- A full-word request with a code, a source field and a tag (12 section 12.3). -/
def requestValue (code source : Nat) (tag : BitVec 16) : WriteWord :=
  ⟨place 0 8 code ||| place 8 8 source ||| place 16 16 tag.toNat, 0b1111⟩

/-- A write to DESC word `n`. -/
def writeDesc (d : Side) (n : Nat) (w : WriteWord) (lock : Bool) (s : State) : State :=
  presentWrite d (wordAt (descBase s.pins) n) (.single w) lock s

/-- A write to CCP word `n`; without a CCP there is no such word. -/
def writeCcp (d : Side) (n : Nat) (w : WriteWord) (lock : Bool) (s : State) : State :=
  if s.regions.ccp.present then presentWrite d (wordAt s.regions.ccp.base n) (.single w) lock s else s

/-- A write to the PCT word of a port; without a PCT there is no such word. -/
def writePct (d : Side) (q : Port) (w : WriteWord) (lock : Bool) (s : State) : State :=
  if s.regions.pct.present then presentWrite d (wordAt s.regions.pct.base q.val) (.single w) lock s else s

/-- A request to a grant slot; without an LSA there is no such word. -/
def writeSlot (d : Side) (k : SlotIx) (w : WriteWord) (lock : Bool) (s : State) : State :=
  if s.regions.lsa.present then
    presentWrite d (ctlAddr s.regions (.slot k) 0) (.single w) lock s
  else s

/-- A write through the edit window at a byte offset; beyond the window there is no such word. -/
def writeWindow (d : Side) (offset : Nat) (data : WriteData) (lock : Bool) (s : State) : State :=
  if s.regions.zew.holds (s.regions.zew.base + offset) then
    presentWrite d (s.regions.zew.base + offset) data lock s
  else s

end Sys2Proof.Machine
end

