-- ==== Sys2Proof/Machine/Port.lean ====
section
/-! DEFINITION. The port arbiter (03 R42 to R49), the service of the write queue and of internal reads
(R50, R51, R57), the giving of free queue entries (R54, R55), and the end of an access. -/

namespace Sys2Proof.Machine

/-! ### Free queue entries (03 R54, R55) -/

/-- Whether a waiter is an URGENT value. -/
def Waiter.isUrgent : Waiter → Bool
  | .value e => e.cls == .urgent
  | .record _ _ => false
  | .publication => false

/-- The waiter that is given a free entry next: the first URGENT value, else the first of all (03 R54). -/
def nextWaiter (ws : List Waiter) : Option Waiter := (ws.find? Waiter.isUrgent).or ws.head?

/-- A waiting value joins the queue, or coalesces as one of its class does (03 R52, R54). -/
def TableWriter.joinValue (t : TableWriter) (e : Entry) : TableWriter :=
  if (e.cls = .urgent ∨ e.cls = .status) ∧ t.holdsFor e.target = true then
    t.coalesce e.cls ⟨e.target, e.value, e.mask⟩
  else t.join e

/-- A publish-pending record queues words one after another: a word that coalesces needs no free entry,
and the first that needs one while none is free stops it. Answers the addresses left (03 R55). -/
def runRecord (o : Origin) : List RecWord → TableWriter → TableWriter × List Nat
  | [], t => (t, [])
  | w :: ws, t =>
    if t.holdsFor w.target then runRecord o ws (t.coalesce .status w)
    else if Config.queuePlaces ≤ t.queue.length then (t, w.target :: ws.map (·.target))
    else runRecord o ws ((t.join (t.fresh .status o w)).bump)

/-- Puts a record's progress in its place among the waiting values, or clears its mark (03 R55). -/
def keepRecord (r : RecordId) (before left : List Nat) (ws : List Waiter) : List Waiter :=
  if left.isEmpty then ws.erase (.record r before)
  else ws.map fun x => if x = .record r before then .record r left else x

/-- The words of a record at the given addresses, with the values the owning unit now holds. -/
def wordsAt (s : State) (r : RecordId) (targets : List Nat) : List RecWord :=
  targets.filterMap fun a => (recordWords s r).find? fun w => w.target == a

/-- A publish-pending record is given free entries (03 R55). -/
def giveRecord (r : RecordId) (left : List Nat) (s : State) : State :=
  let res := runRecord (recordOrigin r) (wordsAt s r left) s.tw
  s.setTw { res.1 with waiting := keepRecord r left res.2 res.1.waiting }

/-- A waiting value is given a free entry, and its producer continues (03 R54). -/
def giveValue (e : Entry) (s : State) : State :=
  let s1 := s.setTw (TableWriter.joinValue { s.tw with waiting := s.tw.waiting.erase (.value e) } e)
  if e.isBankWrite then
    pump (if e.origin = .liveWord then noteLive e.value s1 else s1)
  else s1

/-- The entry publication is given a free entry (02 R36). -/
def givePublication (s : State) : State :=
  let s1 := s.setTw { s.tw with waiting := s.tw.waiting.erase .publication }
  match s.ldr.pub with
  | none => s1
  | some i => publishNext i s1

/-- A free entry is given to one waiter. -/
def giveOne (s : State) : State :=
  match nextWaiter s.tw.waiting with
  | none => s
  | some (.value e) => giveValue e s
  | some (.record r left) => giveRecord r left s
  | some .publication => givePublication s

/-- Whether an entry is free and a value waits. -/
def canGive (s : State) : Bool :=
  decide (s.tw.queue.length < Config.queuePlaces) && !s.tw.waiting.isEmpty

/-- Gives free entries out until no value waits or the queue is full (03 R54). -/
def drain : Nat → State → State
  | 0, s => s
  | n + 1, s => if canGive s then drain n (giveOne s) else s

/-! ### Requests and grants (03 R43 to R49) -/

/-- The requester of a side. -/
def Requester.ofSide : Side → Requester
  | .a => .spa
  | .b => .spb

/-- The side of a requester. -/
def Requester.side : Requester → Option Side
  | .spa => some .a
  | .spb => some .b
  | .tw => none

/-- Whether a requester has a request waiting (03 R43). -/
def requesting (s : State) : Requester → Bool
  | .spa => s.port.waitA.isSome
  | .spb => s.port.waitB.isSome
  | .tw => !s.pins.bypass && (!s.tw.queue.isEmpty || s.tw.read.isSome)

/-- Whether the table writer is escalated (03 R46). -/
def escalated (t : TableWriter) : Bool :=
  t.queue.any (fun e => e.cls == .urgent) || decide (Config.escalationLength ≤ t.queue.length)

/-- The priority order of FIXED mode (03 R45). -/
def fixedOrder (s : State) : List Requester :=
  if supervising s && s.mast.master == some .b then [.spb, .spa, .tw] else [.spa, .spb, .tw]

/-- The priority order of the moment (03 R45, R46). -/
def priorityOrder (s : State) : List Requester :=
  let base := match s.port.mode with
    | .fixed => fixedOrder s
    | .rotating => s.port.rotation
  if escalated s.tw then .tw :: base.filter (· != .tw) else base

/-- The access that the table writer performs when it is granted the port (03 R51). That an issued read is
performed ahead of every queued entry but an URGENT one holds for the loader's read of DESC word 1 too, ahead of its
own queued LOADING verdict for that word, where 03 R57 says that no operation reads a word which it has itself
queued a write to: the model follows R51, its choice (log 42). -/
def chooseTw (t : TableWriter) : Option Current :=
  match t.queue.find? (fun e => e.cls == .urgent) with
  | some e => some (.twWrite e)
  | none => if t.read.isSome then some .twRead else t.queue.head?.map Current.twWrite

/-- An access begins for a side (03 R43). -/
def beginSide (d : Side) (s : State) : State :=
  match s.port.wait d with
  | none => s
  | some a => s.setPort { s.port.setWait none d with
      owner := some (.ofSide d), parked := false, current := some (.up d a) }

/-- An access begins for a requester. -/
def beginAccess (r : Requester) (s : State) : State :=
  match r with
  | .spa => beginSide .a s
  | .spb => beginSide .b s
  | .tw => match chooseTw s.tw with
    | none => s
    | some c => s.setPort { s.port with owner := some .tw, parked := false, current := some c }

/-- Arbitration among the waiting requests (03 R44, R45); with the owner's request alone it serves the
owner. -/
def arbitrate (s : State) : State :=
  match (priorityOrder s).find? (requesting s) with
  | none => s
  | some r => beginAccess r s

/-- The side that holds the lock sequence in progress (03 R47). -/
def lockHolder (p : PortArb) : Option Side :=
  if p.lockCount = 0 then none
  else match p.owner with
    | none => none
    | some r => r.side

/-- A ninth locked access ends the sequence; LOCK_OVERRUN is asked for before the arbitration (03 R48;
log 12). -/
def overrun (d : Side) (a : Access) (s : State) : State :=
  arbitrate (appendEvent .lockOverrun (place 0 8 (Side.code d)) (BitVec.ofNat 32 a.addr)
    (s.setPort { s.port with lockCount := 0 }))

/-- An idle port is granted (03 R44, R47, R48; log 13). Requests that one command has raised together are
all waiting when it is granted, the owner's too, the model's choice (log 32). -/
def grantIdle (s : State) : State :=
  match lockHolder s.port with
  | none => arbitrate s
  | some d => match s.port.wait d with
    | none => s
    | some a =>
      if a.lock && decide (Config.lockLimit ≤ s.port.lockCount) then overrun d a s else beginSide d s

/-- Serves the port when it is idle. -/
def kick (s : State) : State := if s.port.current.isSome then s else grantIdle s

/-- What follows in the same event once a command has had its own effect: free queue entries are given
out, first reads that are due are asked for, and an idle port is granted. That the places freed within an
event are given out at its end, after all the values that the event produces, is the model's choice: 03 R54
fixes no order between the two (log 39). -/
def finish (s : State) : State := kick (loaderFirst (firstRead (drain Config.drainFuel s)))

/-- Runs a command's own effect and what follows; while PWRUP_RESET is asserted nothing occurs
(02 R39). -/
def occur (f : State → State) (s : State) : State := if s.pins.inReset then s else finish (f s)

/-! ### The end of an access -/

/-- The address of a word at the moment it is performed (01 R12). -/
def targetAddr (s : State) : Target → Nat
  | .plain a => a
  | .window o zb0 zb1 => (if s.zon.liveBank = 0 then zb1 else zb0) + o

/-- The value of a word at the moment it is performed: a PCT word takes the port's status (01 R8). -/
def opValue (s : State) (op : WordOp) : Word :=
  match op.port with
  | none => op.value
  | some q => (op.value &&& 0x0000FFFF#32) ||| portWord s.gov q

/-- Performs one word of a forwarded write. -/
def performOp (s : State) (op : WordOp) : State :=
  s.setMem (Mem.writeWord (targetAddr s op.target) (opValue s op) op.enables s.mem)

/-- Performs a forwarded write. -/
def performWrite (ops : List WordOp) (s : State) : State := ops.foldl performOp s

/-- The read data of a forwarded read, with check indications `errs`, bit n for word n (01 R17; log 24). -/
def readData (s : State) (ts : List Target) (errs : BitVec 4) : List (Word × Bool) :=
  ts.zipIdx.map fun x => (Mem.readWord s.mem (targetAddr s x.1), errs.getLsbD x.2)

/-- The port at the end of an access of a requester: parked, the requester at the tail of the rotation
order (03 R43). -/
def PortArb.served (r : Requester) (p : PortArb) : PortArb :=
  { p with parked := true, current := none, rotation := p.rotation.filter (· != r) ++ [r] }

/-- The lock count at the end of an upstream access (03 R47). -/
def PortArb.countLock (lock : Bool) (p : PortArb) : PortArb :=
  { p with lockCount := if lock then p.lockCount + 1 else 0 }

/-- The write that started the load has been performed (02 R25). -/
def startPerformed (d : Side) (a : Access) (s : State) : State :=
  if a.startsLoad && s.ldr.side == d then s.setLdr { s.ldr with awaitStart := false } else s

/-- An upstream access ends (03 R43). -/
def endUp (d : Side) (a : Access) (errs : BitVec 4) (s : State) : State :=
  let s1 := s.setPort ((s.port.served (.ofSide d)).countLock a.lock)
  match a.body with
  | .read ts => complete d (.read (readData s ts errs)) s1
  | .write ops => startPerformed d a (complete d .write (performWrite ops s1))

/-- The entry that a table writer's write performs: as it now stands in the queue, or as it was granted
if it has left the queue (03 R51; log 8). -/
def currentEntry (t : TableWriter) (e : Entry) : Entry := (t.queue.find? fun x => x.id == e.id).getD e

/-- The word of the ring producer index (12 section 12.3). -/
def producerAddr (s : State) : Nat := wordAt s.regions.ccp.base 27

/-- The published producer takes the value of a producer index entry (11 R183). -/
def notePublished (e : Entry) (s : State) : State :=
  if supervising s && e.target == producerAddr s then
    s.setRing { s.ring with published := e.value.toNat }
  else s

/-- The ACCEPTED verdict of the entry publication has been performed (02 R36). -/
def noteVerdict (e : Entry) (s : State) : State :=
  if e.origin = .publicationEnd ∧ supervising s = true ∧ isClosing s = false then
    s.setLdr { s.ldr with tvalid := true }
  else s

/-- A live-word write has been performed: the flip completes and held writes are classified afresh
(08 R136, 01 R13; log 25). -/
def noteFlip (e : Entry) (s : State) : State :=
  if e.origin = .liveWord ∧ s.zon.liveQueued = true then
    releaseHeld .b (releaseHeld .a (awaitFlipWrites (completeFlip s)))
  else s

/-- A closing ends when the last of its writes has been performed (02 R38). -/
def noteClosing (s : State) : State := if closingDone s then closingEnd s else s

/-- The table writer's write `e` is performed at table memory and leaves the queue (03 R51). -/
def performEntry (e : Entry) (s : State) : State :=
  (s.setMem (Mem.writeWord e.target e.value e.mask s.mem)).setTw
    { s.tw with queue := s.tw.queue.filter fun x => x.id != e.id }

/-- A table writer's write ends (03 R51). -/
def endWrite (e : Entry) (s : State) : State :=
  let x := currentEntry s.tw e
  noteClosing (noteFlip x (noteVerdict x (notePublished x
    (performEntry x (s.setPort (s.port.served .tw))))))

/-- The data of an internal read is delivered to its operation, or discarded (03 R57); the loader reads in
LOADING alone (02 R26). -/
def deliver (op : Option ReadOp) (w : Word) (err : Bool) (s : State) : State :=
  match op with
  | none => s
  | some .loader => if s.ldr.op = .loading then loadData w err s else s
  | some (.install k) => installData k w err s
  | some .zoning => if s.zon.stage = .cloning then cloneData w err s else commitData w err s

/-- An internal read ends: its data arrives, and the head of the waiting list has its read issued
(03 R57). -/
def endRead (err : Bool) (s : State) : State :=
  let s1 := s.setPort (s.port.served .tw)
  match s.tw.read with
  | none => s1
  | some r =>
    issueHead (deliver r.op (Mem.readWord s.mem r.target) err (s1.setTw { s1.tw with read := none }))

/-- The access in progress ends (03 R43, R44); `errs` are the check indications of its read data. -/
def endAccess (errs : BitVec 4) (s : State) : State :=
  match s.port.current with
  | none => s
  | some (.up d a) => endUp d a errs s
  | some (.twWrite e) => endWrite e s
  | some .twRead => endRead (errs.getLsbD 0) s

/-! ### Which end of an access an event is (log 1) -/

/-- The table writer's write in progress, with its entry as it now stands. -/
def writeInProgress (s : State) : Option Entry :=
  match s.port.current with
  | some (.twWrite e) => some (currentEntry s.tw e)
  | some (.up _ _) => none
  | some .twRead => none
  | none => none

/-- The operation of the internal read in progress; the inner `none` is an abandoned read. -/
def readInProgress (s : State) : Option (Option ReadOp) :=
  match s.port.current with
  | some .twRead => s.tw.read.map (·.op)
  | some (.up _ _) => none
  | some (.twWrite _) => none
  | none => none

/-- Whether the access in progress is the write that started the load. -/
def startInProgress (s : State) : Bool :=
  match s.port.current with
  | some (.up d a) => a.startsLoad && s.ldr.op == .loading && s.ldr.awaitStart && s.ldr.side == d
  | some (.twWrite _) => false
  | some .twRead => false
  | none => false

/-- Whether the write in progress is the ACCEPTED verdict of the entry publication. -/
def verdictInProgress (s : State) : Bool :=
  (writeInProgress s).any fun e => e.origin == .publicationEnd

/-- Whether the write in progress is a flip's live word. -/
def liveInProgress (s : State) : Bool :=
  (writeInProgress s).any fun e => e.origin == .liveWord && s.zon.liveQueued

/-- Whether the write in progress is a producer index entry. -/
def producerInProgress (s : State) : Bool :=
  supervising s && (writeInProgress s).any fun e => e.target == producerAddr s

/-- Whether the write in progress is the last that a closing waits for. -/
def lastClosingInProgress (s : State) : Bool :=
  match writeInProgress s, s.ldr.closing with
  | some e, some ids => !liveInProgress s && ids.contains e.id
      && ids.all fun n => n == e.id || !s.tw.pendingId n
  | _, _ => false

/-- Whether the write in progress is the last bank write that a new operation's first read waits for
(08 R129). -/
def lastBankWriteInProgress (s : State) : Bool :=
  s.zon.firstReadDue && !bankWriteWaits s &&
    (writeInProgress s).any fun e => e.isBankWrite &&
      s.tw.queue.all fun x => x.id == e.id || !x.isBankWrite

/-- Whether the place freed by the write in progress goes to a waiting value or the publication. -/
def valueJoinsNext (s : State) : Bool :=
  (writeInProgress s).isSome && match nextWaiter s.tw.waiting with
    | some (.value _) => true
    | some .publication => true
    | some (.record _ _) => false
    | none => false

/-- Whether the place freed by the write in progress goes to a publish-pending record. -/
def recordQueuedNext (s : State) : Bool :=
  (writeInProgress s).isSome && match nextWaiter s.tw.waiting with
    | some (.record _ _) => true
    | some (.value _) => false
    | some .publication => false
    | none => false

/-- The access in progress ends, if it is the one an event names (log 1). -/
def endIf (p : State → Bool) (errs : BitVec 4) (s : State) : State :=
  if p s then occur (endAccess errs) s else s

end Sys2Proof.Machine
end

