-- ==== Sys2Proof/Machine/Time.lean ====
section
/-! DEFINITION. The time base (02 R40, R41), the reference period, and the input lines with the two resets
(02 R39, 01 R18, R19, 04 R62). -/

namespace Sys2Proof.Machine

/-! ### What a tick has left due (log 2) -/

/-- The chassis-second that a tick has left due (02 R41). -/
def takeSecond (s : State) : State :=
  if s.time.secondDue then
    s.setTime { s.time with seconds := s.time.seconds + 1, secondDue := false }
  else s

/-- The hour tick that a tick has left due (02 R41, 05 R85). -/
def takeHour (s : State) : State :=
  if s.time.hourDue then hourAtLicence (s.setTime { s.time with hourDue := false }) else s

/-- Everything an earlier tick has left due, in the order of log 2. -/
def takeRotors (s : State) : State := (List.finRange 8).foldl (fun x r => spinUpDone r x) s
def takeFalls (s : State) : State := (List.finRange 4).foldl (fun x t => fallExpiry t x) s
def takeDerates (s : State) : State := (List.finRange 4).foldl (fun x t => derateExpiry t x) s
def takeRecoveries (s : State) : State := (List.finRange 4).foldl (fun x t => recoveryExpiry t x) s
def takeLines (s : State) : State :=
  (List.finRange 4).foldl (fun x i => debounced i .good (debounced i .pres x)) s
def takeClears (s : State) : State := (List.finRange 20).foldl (fun x a => clearEntry a x) s

/-- Takes every expiry that is still due: a tick has its full effect before the next (log 2). -/
def takeDue (s : State) : State :=
  let s1 := heartbeatExpired .b (heartbeatExpired .a (takeSecond s))
  let s2 := takeRecoveries (takeDerates (takeFalls (takeRotors s1)))
  takeHour (flashPhase (takeClears (pollExpiry (takeLines s2))))

/-! ### The tick (02 R40, R41) -/

/-- The counts of the time base at a tick in SUPERVISING (02 R41). -/
def TimeBase.tick (t : TimeBase) : TimeBase :=
  let h := t.hourCount + 1
  { t with
    hourCount := if Config.hourTicks ≤ h then 0 else h
    hourDue := decide (Config.hourTicks ≤ h)
    secondDue := decide (h % Config.secondTicks = 0) }

/-- The heartbeat timers take a tick, unless BYPASS freezes them (01 R18, 04 R60). -/
def Mastership.tick (bypass : Bool) (m : Mastership) : Mastership :=
  if bypass then m else { m with timerA := m.timerA.tick, timerB := m.timerB.tick }

/-- Every unit's timers take a tick in SUPERVISING. -/
def tickUnits (s : State) : State :=
  if supervising s then
    let s1 := (s.setTime s.time.tick).setMast (s.mast.tick s.pins.bypass)
    ((s1.setFan s1.fan.tick).setAlm s1.alm.tick).setMdl
      { s1.mdl with pollTimer := s1.mdl.pollTimer.tick }
  else s

/-- The module lines are sampled (10 R162). -/
def sampleTick (pres good : BitVec 4) (s : State) : State :=
  (s.setPins { s.pins with modPres := pres, modGood := good }).setMdl
    { s.mdl with mods := sampleLines pres good s.mdl.mods }

/-- A tick: what the last tick left due is taken, the module lines are sampled, and every running timer
loses one (02 R40). -/
def tickEvent (pres good : BitVec 4) (s : State) : State :=
  let s1 := takeDue s
  tickUnits (sampleTick pres good (s1.setTime { s1.time with refCount := 0 }))

/-! ### The reference period (02 R40; log 3) -/

/-- One reference period at a rotor: a stalled measurement that is due is taken first (09 R148). -/
def rotorPeriod (s : State) (r : RotorIx) : State :=
  let s1 := if (s.fan.rotors[r]).stallDue then stalledMeasured r s else s
  setRotor r (s1.fan.rotors[r]).period s1

/-- One reference period at the link's counts: a recovery that is due is taken first (10 R168). -/
def linkPeriod (s : State) : State :=
  let s1 := stuck s
  s1.setMdl (s1.mdl.period s1.pins.linkClkLow)

/-- The count of reference periods; the thousandth is a tick, with the module lines as last sampled. -/
def countPeriod (s : State) : State :=
  if Config.tickPeriods ≤ s.time.refCount + 1 then tickEvent s.pins.modPres s.pins.modGood s
  else s.setTime { s.time with refCount := s.time.refCount + 1 }

/-- One period of the 100 kHz reference. -/
def referencePeriod (s : State) : State :=
  let s1 := if supervising s then (List.finRange 8).foldl rotorPeriod s else s
  countPeriod (linkPeriod s1)

/-! ### Lines -/

/-- Sets or clears one bit. -/
def setBit {n : Nat} (v : BitVec n) (i : Nat) (b : Bool) : BitVec n :=
  if b then v ||| (1#n <<< i) else v &&& ~~~(1#n <<< i)

/-- Sets the level of a side's RUN line. -/
def setRun (d : Side) (b : Bool) (s : State) : State :=
  s.setPins (match d with
    | .a => { s.pins with runA := b }
    | .b => { s.pins with runB := b })

/-- A lock sequence of a side ends with its RUN line; an access of it in progress begins no new one
(03 R49; log 13). -/
def endLock (d : Side) (s : State) : State :=
  if lockHolder s.port = some d then
    s.setPort { s.port with
      lockCount := 0
      current := match s.port.current with
        | some (.up e a) => some (.up e { a with lock := false })
        | some (.twWrite e) => some (.twWrite e)
        | some .twRead => some .twRead
        | none => none }
  else s

/-- A RUN line deasserts (04 R62, 03 R49). -/
def runDeasserts (d : Side) (s : State) : State :=
  let s1 := endLock d (setRun d false s)
  if supervising s1 then runLost d s1 else s1

/-- A RUN line asserts (04 R62): eligibility is derived afresh (R61). -/
def runAsserts (d : Side) (s : State) : State :=
  let s1 := setRun d true s
  if supervising s1 then refreshEligibility s1 else s1

/-- Sets the level of a slot's presence line. -/
def setSlotLine (k : SlotIx) (b : Bool) (s : State) : State :=
  s.setPins { s.pins with slotPres := setBit s.pins.slotPres k.val b }

/-- A slot's presence line deasserts (07 R118). -/
def slotDeasserts (k : SlotIx) (s : State) : State :=
  let s1 := setSlotLine k false s
  if supervising s1 then loseSlot k s1 else s1

/-- A slot's presence line asserts (07 R119). -/
def slotAsserts (k : SlotIx) (s : State) : State :=
  let s1 := setSlotLine k true s
  if supervising s1 then gainSlot k s1 else s1

/-- Sets the level of a tray's presence line. -/
def setTrayLine (t : TrayIx) (b : Bool) (s : State) : State :=
  s.setPins { s.pins with trayPres := setBit s.pins.trayPres t.val b }

/-- A tray is inserted (09 R147). -/
def trayInserts (t : TrayIx) (s : State) : State :=
  let s1 := setTrayLine t true s
  if supervising s1 then trayChanged t true (Rotor.inserted s1.params.spinUpTicks) s1 else s1

/-- A tray is removed (09 R147). -/
def trayRemoves (t : TrayIx) (s : State) : State :=
  let s1 := setTrayLine t false s
  if supervising s1 then trayChanged t false Rotor.removed s1 else s1

/-- Sets the BYPASS line (01 R18, R19). -/
def setBypass (b : Bool) (s : State) : State := s.setPins { s.pins with bypass := b }

/-- While PWRUP_RESET is asserted a line's level still changes, and nothing else does (02 R39). -/
def lineEvent (level event : State → State) (s : State) : State :=
  if s.pins.inReset then level s else finish (event s)

/-! ### Resets (02 R39) -/

/-- PWRUP_RESET asserts: an access in progress on the port is cut off (log 9). -/
def resetAsserts (s : State) : State :=
  (s.setPins { s.pins with inReset := true }).setPort { s.port with current := none }

/-- PWRUP_RESET deasserts: the straps are sampled and every piece of state takes its power-on value
(02 R39). -/
def resetDeasserts (memSize descSel : BitVec 2) (s : State) : State :=
  State.powerOn s.pending s.mem
    { s.pins with inReset := false, memSel := memSize, descSel := descSel }

end Sys2Proof.Machine
end

