-- ==== Sys2Proof/Machine/CommandsBus.lean ====
section
/-! DEFINITION. The meanings of the commands that a supervisor gives on its bus: reads, writes, and the
writes that the table names for their effect (01 R1 to R22; the addresses of the named writes, log 21). -/

namespace Sys2Proof.Machine

/-- UPSTREAM_READ (01 R3). -/
def execUpstreamRead (side : Side) (addr : BitVec 24) (burst lock : Bool) (s : State) :
    Host.Outcome State Fault Refusal :=
  .next (occur (presentRead side addr.toNat burst lock) s)

/-- UPSTREAM_WRITE (01 R3). -/
def execUpstreamWrite (side : Side) (addr : BitVec 24) (data : WriteData) (lock : Bool) (s : State) :
    Host.Outcome State Fault Refusal :=
  .next (occur (presentWrite side addr.toNat data lock) s)

/-- LOAD_START (02 R25): a write to DESC word 127. -/
def execLoadStart (side : Side) (w : WriteWord) (lock : Bool) (s : State) :
    Host.Outcome State Fault Refusal :=
  .next (occur (writeDesc side 127 w lock) s)

/-- DESCRIPTOR_CHANGED (02 R27): a write to a DESC word. -/
def execDescriptorChanged (side : Side) (word : Fin 128) (w : WriteWord) (lock : Bool) (s : State) :
    Host.Outcome State Fault Refusal :=
  .next (occur (writeDesc side word.val w lock) s)

/-- DESIRED_ON (07 R114): a PCT write with desired set and byte 0 enabled. -/
def execDesiredOn (side : Side) (port : Port) (w : WriteWord) (lock : Bool) (s : State) :
    Host.Outcome State Fault Refusal :=
  .next (occur (writePct side port ⟨w.value ||| 1#32, w.enables ||| 0b0001⟩ lock) s)

/-- DESIRED_OFF (07 R115): a PCT write with desired clear and byte 0 enabled. -/
def execDesiredOff (side : Side) (port : Port) (w : WriteWord) (lock : Bool) (s : State) :
    Host.Outcome State Fault Refusal :=
  .next (occur (writePct side port ⟨w.value &&& ~~~1#32, w.enables ||| 0b0001⟩ lock) s)

/-- The PCT bytes 0 and 1 of a speed change, which keeps the port's desired state (12 section 12.4). -/
def speedWord (s : State) (port : Port) (speed : BitVec 2) (tag : Byte) : WriteWord :=
  ⟨placeBit 0 (s.gov.ports[port]).desired ||| place 1 2 speed.toNat ||| place 8 8 tag.toNat, 0b0011⟩

/-- SPEED_CHANGE (07 R116): a PCT write of bytes 0 and 1 that keeps desired. -/
def execSpeedChange (side : Side) (port : Port) (speed : BitVec 2) (tag : Byte) (lock : Bool) (s : State) :
    Host.Outcome State Fault Refusal :=
  .next (occur (writePct side port (speedWord s port speed tag) lock) s)

/-- The CCP word of a side's heartbeat (04 section 4.2). -/
def heartbeatNo : Side → Nat
  | .a => 24
  | .b => 25

/-- HEARTBEAT (04 R60): a write to the side's own heartbeat word. -/
def execHeartbeat (side : Side) (w : WriteWord) (lock : Bool) (s : State) :
    Host.Outcome State Fault Refusal :=
  .next (occur (writeCcp side (heartbeatNo side) w lock) s)

/-- CONSUMER_INDEX_WRITE (11 R182): a full-word write to CCP word 28. -/
def execConsumerIndexWrite (side : Side) (value : Word) (lock : Bool) (s : State) :
    Host.Outcome State Fault Refusal :=
  .next (occur (writeCcp side 28 ⟨value, 0b1111⟩ lock) s)

/-- ZEW_WRITE (01 R13): a write through the edit window. -/
def execZewWrite (side : Side) (offset : BitVec 16) (data : WriteData) (lock : Bool) (s : State) :
    Host.Outcome State Fault Refusal :=
  .next (occur (writeWindow side offset.toNat data lock) s)

/-- CLAIM (04 R65): code 1 to the MASTERSHIP request word. -/
def execClaim (side : Side) (tag : BitVec 16) (lock : Bool) (s : State) :
    Host.Outcome State Fault Refusal :=
  .next (occur (writeCcp side 0 (requestValue claimCode 0 tag) lock) s)

/-- RELEASE (04 R70): code 2 to the MASTERSHIP request word. -/
def execRelease (side : Side) (tag : BitVec 16) (lock : Bool) (s : State) :
    Host.Outcome State Fault Refusal :=
  .next (occur (writeCcp side 0 (requestValue releaseCode 0 tag) lock) s)

/-- COMMIT (08 R129): code 1 to the ZONING request word. -/
def execCommit (side : Side) (tag : BitVec 16) (lock : Bool) (s : State) :
    Host.Outcome State Fault Refusal :=
  .next (occur (writeCcp side 4 (requestValue 1 0 tag) lock) s)

/-- CLONE (08 R129): code 2 to the ZONING request word. -/
def execClone (side : Side) (tag : BitVec 16) (lock : Bool) (s : State) :
    Host.Outcome State Fault Refusal :=
  .next (occur (writeCcp side 4 (requestValue 2 0 tag) lock) s)

/-- RESUME (08 R139): code 3 to the ZONING request word. -/
def execResume (side : Side) (tag : BitVec 16) (lock : Bool) (s : State) :
    Host.Outcome State Fault Refusal :=
  .next (occur (writeCcp side 4 (requestValue 3 0 tag) lock) s)

/-- ABANDON (08 R140): code 4 to the ZONING request word. -/
def execAbandon (side : Side) (tag : BitVec 16) (lock : Bool) (s : State) :
    Host.Outcome State Fault Refusal :=
  .next (occur (writeCcp side 4 (requestValue 4 0 tag) lock) s)

/-- RESTART (02 R37): code 1 to the RESTART request word. -/
def execRestart (side : Side) (tag : BitVec 16) (lock : Bool) (s : State) :
    Host.Outcome State Fault Refusal :=
  .next (occur (writeCcp side 8 (requestValue 1 0 tag) lock) s)

/-- ACK (11 R177): code 1 to the ALARM_ACK request word, with a source. -/
def execAck (side : Side) (source : Byte) (tag : BitVec 16) (lock : Bool) (s : State) :
    Host.Outcome State Fault Refusal :=
  .next (occur (writeCcp side 12 (requestValue 1 source.toNat tag) lock) s)

/-- INSTALL (05 R79): code 1 to a slot's request word. -/
def execInstall (side : Side) (slot : SlotIx) (tag : BitVec 16) (lock : Bool) (s : State) :
    Host.Outcome State Fault Refusal :=
  .next (occur (writeSlot side slot (requestValue 1 0 tag) lock) s)

/-- REMOVE (05 R84): code 2 to a slot's request word. -/
def execRemove (side : Side) (slot : SlotIx) (tag : BitVec 16) (lock : Bool) (s : State) :
    Host.Outcome State Fault Refusal :=
  .next (occur (writeSlot side slot (requestValue 2 0 tag) lock) s)

end Sys2Proof.Machine
end

