-- ==== Sys2Proof/Machine/CommandsPort.lean ====
section
/-! DEFINITION. The meanings of the commands that end an access on the table memory port. A row named by what the
end brings about is that end, and occurs only while the access in progress is the one it names (log 1). -/

namespace Sys2Proof.Machine

/-- Check indications of a single-word access. -/
def oneErr (err : Bool) : BitVec 4 := if err then 0b0001 else 0

/-- ACCESS_END (03 R43, R44): the access in progress ends. -/
def execAccessEnd (errs : BitVec 4) (s : State) : Host.Outcome State Fault Refusal :=
  .next (occur (endAccess errs) s)

/-- TW_WRITE_PERFORMED (03 R51): the table writer's write in progress is performed. -/
def execTwWritePerformed (s : State) : Host.Outcome State Fault Refusal :=
  .next (endIf (fun x => (writeInProgress x).isSome) 0 s)

/-- WAITING_VALUE_JOINS (03 R54): the place freed by the write in progress goes to a waiting value. -/
def execWaitingValueJoins (s : State) : Host.Outcome State Fault Refusal :=
  .next (endIf valueJoinsNext 0 s)

/-- PUBLISH_PENDING_QUEUED (03 R55): the place freed goes to a publish-pending record. -/
def execPublishPendingQueued (s : State) : Host.Outcome State Fault Refusal :=
  .next (endIf recordQueuedNext 0 s)

/-- PUBLISHED_PRODUCER_UPDATE (11 R183): the write in progress is a producer index entry. -/
def execPublishedProducerUpdate (s : State) : Host.Outcome State Fault Refusal :=
  .next (endIf producerInProgress 0 s)

/-- LOAD_FIRST_READ (02 R25): the access in progress is the write that started the load. -/
def execLoadFirstRead (s : State) : Host.Outcome State Fault Refusal :=
  .next (endIf startInProgress 0 s)

/-- LOAD_READ_DATA (02 R26): the data of a load read arrives. -/
def execLoadReadData (err : Bool) (s : State) : Host.Outcome State Fault Refusal :=
  .next (endIf (fun x => readInProgress x == some (some .loader)) (oneErr err) s)

/-- ENTRY_PUBLICATION_END (02 R36): the write in progress is the ACCEPTED verdict. -/
def execEntryPublicationEnd (s : State) : Host.Outcome State Fault Refusal :=
  .next (endIf verdictInProgress 0 s)

/-- OPERATION_FIRST_READ (08 R129): the write in progress is the last bank write of an earlier operation. -/
def execOperationFirstRead (s : State) : Host.Outcome State Fault Refusal :=
  .next (endIf lastBankWriteInProgress 0 s)

/-- CLOSING_END (02 R38): the write in progress is the last that the closing waits for. -/
def execClosingEnd (s : State) : Host.Outcome State Fault Refusal :=
  .next (endIf lastClosingInProgress 0 s)

/-- Whether the read in progress is a grant body read. -/
def installReading (s : State) : Bool :=
  match readInProgress s with
  | some (some (.install _)) => true
  | _ => false

/-- INSTALL_READ_DATA (05 R79): the data of a grant body read arrives. -/
def execInstallReadData (err : Bool) (s : State) : Host.Outcome State Fault Refusal :=
  .next (endIf installReading (oneErr err) s)

/-- COMMIT_READ_DATA (08 R131): the data of a commit read arrives. -/
def execCommitReadData (err : Bool) (s : State) : Host.Outcome State Fault Refusal :=
  .next (endIf (fun x => readInProgress x == some (some .zoning) && x.zon.stage != .cloning)
    (oneErr err) s)

/-- FLIP_COMPLETE (08 R136): the write in progress is a flip's live word. -/
def execFlipComplete (s : State) : Host.Outcome State Fault Refusal :=
  .next (endIf liveInProgress 0 s)

/-- CLONE_READ_DATA (08 R141): the data of a clone read arrives. -/
def execCloneReadData (err : Bool) (s : State) : Host.Outcome State Fault Refusal :=
  .next (endIf (fun x => readInProgress x == some (some .zoning) && x.zon.stage == .cloning)
    (oneErr err) s)

/-- ABANDONED_READ_DATA (03 R57): the data of an abandoned read arrives. -/
def execAbandonedReadData (err : Bool) (s : State) : Host.Outcome State Fault Refusal :=
  .next (endIf (fun x => readInProgress x == some none) (oneErr err) s)

end Sys2Proof.Machine
end

