-- ==== Sys2Proof/Machine/CommandsUnits.lean ====
section
/-! DEFINITION. The meanings of the commands of the time base, the lines, the fans, the modules, the link and the
alarms. A row whose event is not due or cannot occur leaves the state as it stands (log 2, log 4). -/

namespace Sys2Proof.Machine

/-- PWRUP_RESET_ASSERT (02 R39). -/
def execPwrupResetAssert (s : State) : Host.Outcome State Fault Refusal :=
  .next (if s.pins.inReset then s else resetAsserts s)

/-- PWRUP_RESET_DEASSERT (02 R39). -/
def execPwrupResetDeassert (memSize descSel : BitVec 2) (s : State) : Host.Outcome State Fault Refusal :=
  .next (if s.pins.inReset then resetDeasserts memSize descSel s else s)

/-- TICK (02 R40). -/
def execTick (modPres modGood : BitVec 4) (s : State) : Host.Outcome State Fault Refusal :=
  .next (occur (tickEvent modPres modGood) s)

/-- CHASSIS_SECOND (02 R41). -/
def execChassisSecond (s : State) : Host.Outcome State Fault Refusal := .next (occur takeSecond s)

/-- HOUR_TICK (05 R85). -/
def execHourTick (s : State) : Host.Outcome State Fault Refusal := .next (occur takeHour s)

/-- HEARTBEAT_EXPIRY (04 R60). -/
def execHeartbeatExpiry (side : Side) (s : State) : Host.Outcome State Fault Refusal :=
  .next (occur (heartbeatExpired side) s)

/-- RUN_DEASSERT (04 R62). -/
def execRunDeassert (side : Side) (s : State) : Host.Outcome State Fault Refusal :=
  .next (if runLine s.pins side then lineEvent (setRun side false) (runDeasserts side) s else s)

/-- RUN_ASSERT (04 R62). -/
def execRunAssert (side : Side) (s : State) : Host.Outcome State Fault Refusal :=
  .next (if runLine s.pins side then s else lineEvent (setRun side true) (runAsserts side) s)

/-- BYPASS_ASSERT (01 R18). -/
def execBypassAssert (s : State) : Host.Outcome State Fault Refusal :=
  .next (lineEvent (setBypass true) (setBypass true) s)

/-- BYPASS_DEASSERT (01 R19). -/
def execBypassDeassert (s : State) : Host.Outcome State Fault Refusal :=
  .next (lineEvent (setBypass false) (setBypass false) s)

/-- SLOT_PRES_DEASSERT (07 R118). -/
def execSlotPresDeassert (slot : SlotIx) (s : State) : Host.Outcome State Fault Refusal :=
  .next (if s.pins.slotPres.getLsbD slot.val then
    lineEvent (setSlotLine slot false) (slotDeasserts slot) s else s)

/-- SLOT_PRES_ASSERT (07 R119). -/
def execSlotPresAssert (slot : SlotIx) (s : State) : Host.Outcome State Fault Refusal :=
  .next (if s.pins.slotPres.getLsbD slot.val then s
    else lineEvent (setSlotLine slot true) (slotAsserts slot) s)

/-- Whether a rising edge would complete the rotor's measurement (09 R148). -/
def fourthEdge (x : Rotor) : Bool := x.phase == .timing && decide (4 ≤ x.edges + 1)

/-- A rising tach edge in SUPERVISING (09 R146, R148). -/
def tachEdge (r : RotorIx) (s : State) : State := if supervising s then edge r s else s

/-- TACH_EDGE (09 R148): any rising edge. -/
def execTachEdge (rotor : RotorIx) (s : State) : Host.Outcome State Fault Refusal :=
  .next (occur (tachEdge rotor) s)

/-- GOOD_MEASUREMENT (09 R148): the rising edge that completes a measurement. -/
def execGoodMeasurement (rotor : RotorIx) (s : State) : Host.Outcome State Fault Refusal :=
  .next (if fourthEdge (s.fan.rotors[rotor]) then occur (tachEdge rotor) s else s)

/-- The stalled measurement of a rotor, when it is due (09 R148; log 31). -/
def takeStall (r : RotorIx) (s : State) : State :=
  if supervising s && (s.fan.rotors[r]).stallDue then stalledMeasured r s else s

/-- STALLED_MEASUREMENT (09 R148). -/
def execStalledMeasurement (rotor : RotorIx) (s : State) : Host.Outcome State Fault Refusal :=
  .next (occur (takeStall rotor) s)

/-- SPIN_UP_EXPIRY (09 R151). -/
def execSpinUpExpiry (rotor : RotorIx) (s : State) : Host.Outcome State Fault Refusal :=
  .next (occur (spinUpDone rotor) s)

/-- FALL_TIMER_EXPIRY (09 R154). -/
def execFallTimerExpiry (tray : TrayIx) (s : State) : Host.Outcome State Fault Refusal :=
  .next (occur (fallExpiry tray) s)

/-- DERATE_TIMER_EXPIRY (09 R155). -/
def execDerateTimerExpiry (tray : TrayIx) (s : State) : Host.Outcome State Fault Refusal :=
  .next (occur (derateExpiry tray) s)

/-- RECOVERY_TIMER_EXPIRY (09 R156). -/
def execRecoveryTimerExpiry (tray : TrayIx) (s : State) : Host.Outcome State Fault Refusal :=
  .next (occur (recoveryExpiry tray) s)

/-- TRAY_INSERTION (09 R147). -/
def execTrayInsertion (tray : TrayIx) (s : State) : Host.Outcome State Fault Refusal :=
  .next (if s.pins.trayPres.getLsbD tray.val then s
    else lineEvent (setTrayLine tray true) (trayInserts tray) s)

/-- TRAY_REMOVAL (09 R147). -/
def execTrayRemoval (tray : TrayIx) (s : State) : Host.Outcome State Fault Refusal :=
  .next (if s.pins.trayPres.getLsbD tray.val then
    lineEvent (setTrayLine tray false) (trayRemoves tray) s else s)

/-- DEBOUNCED_CHANGE (10 R162). -/
def execDebouncedChange (mod : ModIx) (line : ModLine) (s : State) : Host.Outcome State Fault Refusal :=
  .next (occur (debounced mod line) s)

/-- POLL_TIMER_EXPIRY (10 R164). -/
def execPollTimerExpiry (s : State) : Host.Outcome State Fault Refusal := .next (occur pollExpiry s)

/-- POLL_ATTEMPT_START (10 R165). -/
def execPollAttemptStart (s : State) : Host.Outcome State Fault Refusal := .next (occur (onLinkAfterStuck attemptStart) s)

/-- POLL_ATTEMPT_END (10 R166). -/
def execPollAttemptEnd (reply : PollReply) (s : State) : Host.Outcome State Fault Refusal :=
  .next (occur (onLinkAfterStuck (attemptEnd reply)) s)

/-- ARB_LOST (10 R167), at the start where no point is named. -/
def execArbLost (s : State) (point : LinkPoint := .start) : Host.Outcome State Fault Refusal :=
  .next (occur (onLinkAfterStuck (arbitrationLost point)) s)

/-- LINK_STUCK (10 R168). -/
def execLinkStuck (s : State) : Host.Outcome State Fault Refusal := .next (occur stuck s)

/-- Sets the level of the link's clock line. -/
def setClkLine (clkLow : Bool) (s : State) : State := s.setPins { s.pins with linkClkLow := clkLow }

/-- LINK_BUSY_CHANGE (10 R161, R165). -/
def execLinkBusyChange (busy clkLow : Bool) (s : State) : Host.Outcome State Fault Refusal :=
  .next (lineEvent (setClkLine clkLow) (onLinkAfterStuck (linkChange busy clkLow)) s)

/-- CLEAR_TIMER_EXPIRY (11 R176). -/
def execClearTimerExpiry (source : Source) (s : State) : Host.Outcome State Fault Refusal :=
  .next (occur (clearEntry source) s)

/-- INDICATOR_FLASH (11 R179). -/
def execIndicatorFlash (s : State) : Host.Outcome State Fault Refusal := .next (occur flashPhase s)

end Sys2Proof.Machine
end

