-- ==== Sys2Proof/Machine/Dispatch.lean ====
section
/-! DEFINITION. One arm per command: a direct call of its meaning. -/

namespace Sys2Proof.Machine

def exec (i : Instr) (s : State) : Host.Outcome State Fault Refusal :=
  match i with
  | .pwrupResetAssert => Sys2Proof.Machine.execPwrupResetAssert s
  | .pwrupResetDeassert memSize descSel => Sys2Proof.Machine.execPwrupResetDeassert memSize descSel s
  | .upstreamRead side addr burst lock => Sys2Proof.Machine.execUpstreamRead side addr burst lock s
  | .upstreamWrite side addr data lock => Sys2Proof.Machine.execUpstreamWrite side addr data lock s
  | .loadStart side w lock => Sys2Proof.Machine.execLoadStart side w lock s
  | .descriptorChanged side word w lock => Sys2Proof.Machine.execDescriptorChanged side word w lock s
  | .loadFirstRead => Sys2Proof.Machine.execLoadFirstRead s
  | .loadReadData err => Sys2Proof.Machine.execLoadReadData err s
  | .entryPublicationEnd => Sys2Proof.Machine.execEntryPublicationEnd s
  | .desiredOn side port w lock => Sys2Proof.Machine.execDesiredOn side port w lock s
  | .desiredOff side port w lock => Sys2Proof.Machine.execDesiredOff side port w lock s
  | .speedChange side port speed tag lock => Sys2Proof.Machine.execSpeedChange side port speed tag lock s
  | .heartbeat side w lock => Sys2Proof.Machine.execHeartbeat side w lock s
  | .consumerIndexWrite side value lock => Sys2Proof.Machine.execConsumerIndexWrite side value lock s
  | .zewWrite side offset data lock => Sys2Proof.Machine.execZewWrite side offset data lock s
  | .claim side tag lock => Sys2Proof.Machine.execClaim side tag lock s
  | .release side tag lock => Sys2Proof.Machine.execRelease side tag lock s
  | .commit side tag lock => Sys2Proof.Machine.execCommit side tag lock s
  | .clone side tag lock => Sys2Proof.Machine.execClone side tag lock s
  | .operationFirstRead => Sys2Proof.Machine.execOperationFirstRead s
  | .resume side tag lock => Sys2Proof.Machine.execResume side tag lock s
  | .abandon side tag lock => Sys2Proof.Machine.execAbandon side tag lock s
  | .restart side tag lock => Sys2Proof.Machine.execRestart side tag lock s
  | .closingEnd => Sys2Proof.Machine.execClosingEnd s
  | .ack side source tag lock => Sys2Proof.Machine.execAck side source tag lock s
  | .install side slot tag lock => Sys2Proof.Machine.execInstall side slot tag lock s
  | .installReadData err => Sys2Proof.Machine.execInstallReadData err s
  | .remove side slot tag lock => Sys2Proof.Machine.execRemove side slot tag lock s
  | .hourTick => Sys2Proof.Machine.execHourTick s
  | .tick modPres modGood => Sys2Proof.Machine.execTick modPres modGood s
  | .chassisSecond => Sys2Proof.Machine.execChassisSecond s
  | .heartbeatExpiry side => Sys2Proof.Machine.execHeartbeatExpiry side s
  | .runDeassert side => Sys2Proof.Machine.execRunDeassert side s
  | .runAssert side => Sys2Proof.Machine.execRunAssert side s
  | .bypassAssert => Sys2Proof.Machine.execBypassAssert s
  | .bypassDeassert => Sys2Proof.Machine.execBypassDeassert s
  | .accessEnd errs => Sys2Proof.Machine.execAccessEnd errs s
  | .twWritePerformed => Sys2Proof.Machine.execTwWritePerformed s
  | .waitingValueJoins => Sys2Proof.Machine.execWaitingValueJoins s
  | .publishPendingQueued => Sys2Proof.Machine.execPublishPendingQueued s
  | .publishedProducerUpdate => Sys2Proof.Machine.execPublishedProducerUpdate s
  | .slotPresDeassert slot => Sys2Proof.Machine.execSlotPresDeassert slot s
  | .slotPresAssert slot => Sys2Proof.Machine.execSlotPresAssert slot s
  | .commitReadData err => Sys2Proof.Machine.execCommitReadData err s
  | .flipComplete => Sys2Proof.Machine.execFlipComplete s
  | .cloneReadData err => Sys2Proof.Machine.execCloneReadData err s
  | .goodMeasurement rotor => Sys2Proof.Machine.execGoodMeasurement rotor s
  | .stalledMeasurement rotor => Sys2Proof.Machine.execStalledMeasurement rotor s
  | .spinUpExpiry rotor => Sys2Proof.Machine.execSpinUpExpiry rotor s
  | .fallTimerExpiry tray => Sys2Proof.Machine.execFallTimerExpiry tray s
  | .derateTimerExpiry tray => Sys2Proof.Machine.execDerateTimerExpiry tray s
  | .recoveryTimerExpiry tray => Sys2Proof.Machine.execRecoveryTimerExpiry tray s
  | .trayInsertion tray => Sys2Proof.Machine.execTrayInsertion tray s
  | .trayRemoval tray => Sys2Proof.Machine.execTrayRemoval tray s
  | .debouncedChange mod line => Sys2Proof.Machine.execDebouncedChange mod line s
  | .pollTimerExpiry => Sys2Proof.Machine.execPollTimerExpiry s
  | .pollAttemptStart => Sys2Proof.Machine.execPollAttemptStart s
  | .pollAttemptEnd reply => Sys2Proof.Machine.execPollAttemptEnd reply s
  | .arbLost point => Sys2Proof.Machine.execArbLost s point
  | .linkStuck => Sys2Proof.Machine.execLinkStuck s
  | .clearTimerExpiry source => Sys2Proof.Machine.execClearTimerExpiry source s
  | .indicatorFlash => Sys2Proof.Machine.execIndicatorFlash s
  | .tachEdge rotor => Sys2Proof.Machine.execTachEdge rotor s
  | .abandonedReadData err => Sys2Proof.Machine.execAbandonedReadData err s
  | .linkBusyChange busy clkLow => Sys2Proof.Machine.execLinkBusyChange busy clkLow s

end Sys2Proof.Machine
end

