-- ==== Sys2Proof/Safety.lean ====
section
/-! DEFINITION. What counts as a sound state and a safe step, and the conditions under which commands take their
effect, in the terms that statements use. Nothing here is checked by the machine itself. -/

namespace Sys2Proof.Machine

/-! ### Invariants -/

/-- Table memory is in its canonical form. -/
def memorySound (s : State) : Prop := Mem.wf s.mem = true

/-- The write queue holds at most 16 entries (03 R50). -/
def queueBounded (s : State) : Prop := s.tw.queue.length ≤ Config.queuePlaces

/-- The alarm list holds no two entries for one source (11 R175). -/
def alarmsDistinct (s : State) : Prop := (s.alm.list.map (·.source)).Nodup

/-- A port that is serving an access is not parked (03 R43). -/
def parkedWhenIdle (s : State) : Prop := s.port.current.isSome = true → s.port.parked = false

/-- A port that is serving an access is owned by the requester whose access it is (03 R43). -/
def servesItsOwner (s : State) : Prop :=
  match s.port.current with
  | none => True
  | some (.up d _) => s.port.owner = some (.ofSide d)
  | some (.twWrite _) => s.port.owner = some .tw
  | some .twRead => s.port.owner = some .tw

/-- Every base and limit of a region map is a multiple of 64 (02 R30). -/
def Regions.aligned (r : Regions) : Prop :=
  ∀ x ∈ [r.pct, r.lsa, r.ccp, r.zew, r.zb0, r.zb1, r.esa, r.evr], x.base % 64 = 0 ∧ x.limit % 64 = 0

/-- A write held upstream is held in SUPERVISING, and every word of it lies in the edit window (01 R13). -/
def heldInWindow (s : State) : Prop :=
  s.regions.aligned ∧ s.ldr.candidateRegions.aligned
    ∧ ∀ (d : Side) (h : HeldWrite), (s.bus.get d).held = some h →
        s.ldr.op = .supervising ∧ ∀ x ∈ writeWords (wordAddr h.addr) h.data, areaOf s x.1 = .zew

/-- In SUPERVISING the indicator's pattern is the one that the alarm list calls for (11 R179). -/
def patternFollows (s : State) : Prop :=
  s.ldr.op = .supervising → s.alm.pattern = patternOf s.alm.list

/-- At most one zoning operation is in flight or suspended, and a suspended one names the stage of a
commit (08 R123, R128, R138). -/
def suspensionNamed (s : State) : Prop :=
  if s.zon.op = .suspended then
    s.zon.susp = some .validating ∨ s.zon.susp = some .marking ∨ s.zon.susp = some .flipping
  else s.zon.susp = none

/-- The draws of the ports that are effective ON, summed (06 R98). -/
def drawsOn (s : State) : Nat :=
  (allPorts.map fun q => if (s.gov.ports[q]).effective then draw s q else 0).sum

/-- The held list holds each port that is desired ON in a present, capable slot and is not effective
ON, once; an effective port is desired ON in such a slot (07 R108). -/
def heldListLaw (s : State) : Prop :=
  s.gov.held.Nodup
    ∧ (∀ q : Port, q ∈ s.gov.held ↔
        ((s.gov.ports[q]).desired = true ∧ slotUp s.params s.gov (slotOf q) = true
          ∧ (s.gov.ports[q]).effective = false))
    ∧ ∀ q : Port, (s.gov.ports[q]).effective = true →
        (s.gov.ports[q]).desired = true ∧ slotUp s.params s.gov (slotOf q) = true

/-- The committed draw is the sum of the draws of the ports that are effective ON, and does not exceed
the headroom in deciwatts (06 R98). -/
def committedLaw (s : State) : Prop :=
  s.gov.committed = drawsOn s ∧ s.gov.committed ≤ s.gov.headroomDw

/-- The pool assignment list holds no port twice, and only ports that are effective ON with a pool licence and that
no group licenses (05 R75, R88, R89). -/
def poolListLaw (s : State) : Prop :=
  s.lic.pool.Nodup ∧ ∀ q ∈ s.lic.pool, (s.gov.ports[q]).effective = true ∧ (s.gov.ports[q]).source = .pool
    ∧ groupLicensed s.lic q = false

/-- Every shed rank that is held or is a candidate is a clamped one (02 R32). -/
def ranksClamped (s : State) : Prop :=
  (∀ k : SlotIx, (s.params.slots[k]).shedRank ≤ 7)
    ∧ ∀ k : SlotIx, (s.ldr.candidate.slots[k]).shedRank ≤ 7

/-- In SUPERVISING the governor holds a slot present exactly while its line is asserted (06 R93). -/
def slotsFollowed (s : State) : Prop :=
  s.pins.inReset = false → s.ldr.op = .supervising → s.gov.slotPresent = s.pins.slotPres

/-- The laws of the governor (06 R98, 07 R108) with what they rest on. -/
def governorSound (s : State) : Prop :=
  heldListLaw s ∧ committedLaw s ∧ poolListLaw s ∧ ranksClamped s ∧ slotsFollowed s

/-- Outside SUPERVISING every unit but the classifier, the loader, the table writer, the arbiter and the debouncers
stands at its power-on values, and the loader alone has an internal read (02 R24, R38, 10 R161). -/
def unitsAtRest (s : State) : Prop :=
  s.ldr.op ≠ .supervising →
    s.mast = Mastership.powerOn ∧ s.lic = Licence.powerOn ∧ s.gov = Governor.powerOn ∧ s.zon = Zoning.powerOn
      ∧ s.fan = Fans.powerOn ∧ s.alm = Alarms.powerOn ∧ s.ring = Ring.powerOn
      ∧ (∀ i : ModIx, s.mdl.mods[i] = { Module.powerOn with
          pres := (s.mdl.mods[i]).pres, good := (s.mdl.mods[i]).good, unread := (s.mdl.mods[i]).unread })
      ∧ s.mdl = { Modules.powerOn with
          mods := s.mdl.mods, leftover := s.mdl.leftover, wire := s.mdl.wire, linkBusy := s.mdl.linkBusy
          heldClock := s.mdl.heldClock, busyCount := s.mdl.busyCount, stuckDue := s.mdl.stuckDue }
      ∧ s.time.secondDue = false ∧ s.time.hourDue = false
      ∧ (∀ r, s.tw.read = some r → r.op = none ∨ r.op = some .loader) ∧ ∀ x ∈ s.tw.readList, x.op = .loader

/-- Every commanded duty is at or above the target duty (09 R154). -/
def dutiesAtTarget (s : State) : Prop := ∀ y : TrayIx, s.fan.target ≤ (s.fan.trays[y]).duty

/-- A step answers a next state: it meets no fault and no refusal. -/
def stepsOn (s : State) : Prop := ∃ t, step s = .next t

/-! ### Conditions on a state -/

/-- PWRUP_RESET is deasserted and the part is SUPERVISING. -/
def running (s : State) : Prop := s.pins.inReset = false ∧ s.ldr.op = .supervising

/-- Side `d` may present an access, and accesses are classified (01 R1). -/
def classifying (s : State) (d : Side) : Prop :=
  running s ∧ s.pins.bypass = false ∧ busBusy s d = false

/-- Side `d` may present an access, and accesses pass raw because the part is not SUPERVISING (01 R1). -/
def outside (s : State) (d : Side) : Prop :=
  s.pins.inReset = false ∧ s.ldr.op ≠ .supervising ∧ s.pins.bypass = false ∧ busBusy s d = false

/-- `a` is the address of a whole word of table memory in the given area (01 R2). -/
def wordIn (s : State) (area : Area) (a : Nat) : Prop :=
  a % 4 = 0 ∧ a < memSize s.pins ∧ areaOf s a = area

/-- CCP word `n` stands where the region map says (01 R10). -/
def ccpWordAt (s : State) (n : Nat) : Prop :=
  s.regions.ccp.present = true ∧ wordIn s .ccp (wordAt s.regions.ccp.base n)

/-- The PCT word of port `q` stands where the region map says (01 R8). -/
def pctWordAt (s : State) (q : Port) : Prop :=
  s.regions.pct.present = true ∧ wordIn s .pct (wordAt s.regions.pct.base q.val)

/-- The request word of slot `k` stands where the region map says (01 R9). -/
def slotWordAt (s : State) (k : SlotIx) : Prop :=
  s.regions.lsa.present = true ∧ wordIn s .lsa (ctlAddr s.regions (.slot k) 0)

/-- Side `d` is the active side and may present an access that is classified. -/
def activeSide (s : State) (d : Side) : Prop := classifying s d ∧ s.mast.master = some d

/-- The access `a` of side `d` waits at the arbiter or is in progress. -/
def presented (s : State) (d : Side) (a : Access) : Prop :=
  s.port.wait d = some a ∨ s.port.current = some (.up d a)

/-- A one-word write to a plain address, as it is forwarded. -/
def plainWrite (a : Nat) (w : WriteWord) (lock : Bool) : Access :=
  ⟨a, lock, false, .write [⟨.plain a, w.value, w.enables, none⟩]⟩

/-- The access of side `d` has completed upstream in this event, with nothing left on its bus. -/
def completedWrite (s : State) (d : Side) : Prop := (s.bus.get d).done = .write ∧ s.port.wait d = none

/-- The drop record after a drop (01 R16). -/
def dropEntered (former : DropRecord) (a : Nat) (d : Side) (r : DropReason) : DropRecord :=
  ⟨if former.count < 65535 then former.count + 1 else former.count, a, d, r⟩

/-- From `s` to `t` the port is granted to a requester: its access begins, it is the owner, and the port is
not parked (03 R43). -/
def grantedTo (s t : State) : Requester → Prop
  | .spa => ∃ a, s.port.waitA = some a
      ∧ t.port = { s.port with waitA := none, owner := some .spa, parked := false, current := some (.up .a a) }
  | .spb => ∃ a, s.port.waitB = some a
      ∧ t.port = { s.port with waitB := none, owner := some .spb, parked := false, current := some (.up .b a) }
  | .tw => ∃ c, chooseTw s.tw = some c
      ∧ t.port = { s.port with owner := some .tw, parked := false, current := some c }

/-- No requester but a side whose access is in progress has, or can get, an access to the port: nothing is
queued, waits or is read, and no first read is due. -/
def portQuiet (s : State) : Prop :=
  s.port.waitA = none ∧ s.port.waitB = none ∧ s.tw.queue = [] ∧ s.tw.read = none ∧ s.tw.waiting = []
    ∧ s.zon.firstReadDue = false ∧ s.ldr.op ≠ .loading

/-- The write queue holds an entry with this target and value. -/
def queuedValue (s : State) (target : Nat) (value : Word) : Prop :=
  ∃ e ∈ s.tw.queue, e.target = target ∧ e.value = value

/-- The write queue holds a word with its value and mask, in the given class or as an URGENT entry, which a
STATUS value that coalesces into it leaves URGENT (03 R52). -/
def wordQueued (s : State) (cls : EntryClass) (w : RecWord) : Prop :=
  ∃ e ∈ s.tw.queue, e.target = w.target ∧ e.value = w.value ∧ e.mask = w.mask
    ∧ (e.cls = cls ∨ e.cls = .urgent)

/-- The write queue holds every word of a record, each with the value that the units now hold. -/
def recordQueued (s : State) (cls : EntryClass) (r : RecordId) : Prop :=
  ∀ w ∈ recordWords s r, wordQueued s cls w

/-- No value waits, and `n` places of the write queue are free. -/
def roomFor (s : State) (n : Nat) : Prop := s.tw.waiting = [] ∧ s.tw.queue.length + n ≤ Config.queuePlaces

/-- The regions that hold published words, and DESC, are as large as 02 R30 asks and share no byte. -/
def imagesApart (s : State) : Prop :=
  s.regions.pct.base + 1536 ≤ s.regions.pct.limit
    ∧ (s.regions.lsa.base = s.regions.lsa.limit ∨ s.regions.lsa.base + 256 ≤ s.regions.lsa.limit)
    ∧ s.regions.ccp.base + 1024 ≤ s.regions.ccp.limit ∧ s.regions.esa.base + 512 ≤ s.regions.esa.limit
    ∧ [s.regions.pct, s.regions.lsa, s.regions.ccp, s.regions.esa, descRegion s.pins].Pairwise
        fun x y => x.overlaps y = false

/-- What the write queue holds, entry by entry: target, value, byte mask and class. -/
def queueView (s : State) : List (Nat × Word × BitVec 4 × EntryClass) :=
  s.tw.queue.map fun e => (e.target, e.value, e.mask, e.cls)

/-- A word of the staging bank as the zoning unit queues it (08 R134, R135, R141). -/
def stagingEntry (s : State) (n : Nat) (w : Word) : Nat × Word × BitVec 4 × EntryClass :=
  (wordAt (stagingBase s) n, w, 0b1111, .normal)

/-- The six entries of a flip with a digest, a member total and used words, in their order (08 R135). -/
def flipEntries (s : State) (digest : Word) (total used : Nat) :
    List (Nat × Word × BitVec 4 × EntryClass) :=
  [stagingEntry s 2 ((nextGen s.zon.liveGen).setWidth 32), stagingEntry s 3 digest,
   stagingEntry s 4 (BitVec.ofNat 32 total), stagingEntry s 5 (BitVec.ofNat 32 used),
   stagingEntry s 1 (headerWord .valid .none 0),
   (s.regions.ccp.base + 104, liveWord (otherBank s.zon.liveBank) (nextGen s.zon.liveGen), 0b1111, .normal)]

/-- The six header words that a clone queues at its end, from the live header words 5, 0, 2, 3 and 4 as read
(08 R141 step 4). -/
def cloneEntries (s : State) (u h0 h2 h3 h4 : Word) : List (Nat × Word × BitVec 4 × EntryClass) :=
  [stagingEntry s 0 h0, stagingEntry s 2 h2, stagingEntry s 3 h3, stagingEntry s 4 h4, stagingEntry s 5 u,
   stagingEntry s 1 (headerWord .staged .none 0)]

/-- A unit has asked for an event of a kind with two details, where the ring unit stood at `before`: if EVR is
present, the kind is not masked, and of the events asked for in all, three at most, none is lost, then the record,
with the sequence number that the event has taken and the lost count of the first, is in the write queue (11 R181,
12 section 12.8). -/
def eventAsked (before : Ring) (t : State) (k : Kind) (w2 w3 : Word) : Prop :=
  t.ldr.op = .supervising → t.regions.evr.present = true → t.params.kindMask.getLsbD k.code = false →
  before.producer < t.params.ringCapacity → 3 < t.params.ringCapacity →
  ∀ n ≤ 3, t.ring.seq = before.seq + BitVec.ofNat 16 n →
    t.ring.producer = (before.producer + n) % t.params.ringCapacity →
    ∃ m < n, ∀ x ∈ [place 0 8 k.code ||| place 8 8 (if m = 0 then before.lost else 0)
          ||| place 16 16 (before.seq + BitVec.ofNat 16 m).toNat, t.time.seconds, w2, w3].zipIdx,
      (t.regions.evr.base + 16 * ((before.producer + m) % t.params.ringCapacity) + 4 * x.2, x.1, 0b1111,
        EntryClass.event) ∈ queueView t

/-- No published word lies on header word 1 of the staging bank, as in regions that share no byte (02 R30). -/
def stagingApart (s : State) : Prop := ∀ r : RecordId, wordAt (stagingBase s) 1 ∉ recordTargets s r

/-- A flip's words have all joined the queue (08 R135). -/
def flipQueued (s t : State) : Prop :=
  t.zon.op = .flipping ∧ t.zon.liveQueued = true ∧ t.zon.flipGen = some (nextGen s.zon.liveGen)

/-- A control record's status word reports a final outcome. -/
def answered (r : CtlRec) (o : Outcome) (detail : BitVec 16) : Prop :=
  r.state = .done ∧ r.outcome = o ∧ r.detail = detail

/-- From `s` to `t` a zoning operation ends without success: its record is answered, header word 1 of the staging
bank is queued as INVALID with the cause and the index, and COMMIT_FAILED or CLONE_FAILED is asked for (08 R132, R137,
R140, R142, R143). -/
def operationFailed (s t : State) (o : Outcome) (index : Nat) : Prop :=
  t.zon.op = .idle ∧ t.zon.susp = none ∧ t.zon.snapshot = none
    ∧ answered t.ctl.zoning o (BitVec.ofNat 16 index)
    ∧ (stagingApart s → roomFor s 1 → stagingEntry s 1 (headerWord .invalid o index) ∈ queueView t)
    ∧ eventAsked s.ring t (if s.zon.op = .cloning then .cloneFailed else .commitFailed) (place 0 8 o.code)
        (BitVec.ofNat 32 index)

/-- What a change of master side away from A or B does to the zoning unit, handed the generation of that change: a
commit before its live word is suspended, and a clone ends, its INVALID header entry queued where nothing has to wait
(08 R138, R143). -/
def zoningHandedOver (s t : State) : Prop :=
  (s.zon.op = .idle ∨ s.zon.op = .suspended ∨ s.zon.op = .flipping ∧ s.zon.liveQueued = true →
      t.zon.op = s.zon.op)
    ∧ (s.zon.op = .validating ∨ s.zon.op = .marking ∨ s.zon.op = .flipping ∧ s.zon.liveQueued = false →
      t.zon.op = .suspended ∧ t.zon.susp = some s.zon.op
        ∧ eventAsked s.ring t .commitSuspended (place 0 8 s.zon.op.code ||| place 16 16 s.zon.entryIx)
            ((s.mast.generation + 1).setWidth 32))
    ∧ (s.zon.op = .cloning → t.zon.op = .idle ∧ answered t.ctl.zoning .abandonedMastership 0
        ∧ (stagingApart s → t.tw.waiting = [] →
            stagingEntry s 1 (headerWord .invalid .abandonedMastership 0) ∈ queueView t)
        ∧ eventAsked s.ring t .cloneFailed (place 0 8 (Outcome.abandonedMastership).code) 0)

/-- The timer of a side that becomes active: it goes on where it runs, and else starts with the heartbeat period
(04 R64). -/
def activeTimer (s : State) (d : Side) : Timer :=
  if s.mast.timer d = .stopped then .running s.params.heartbeatTicks else s.mast.timer d

/-- From `s` to `t` eligibility has been derived afresh for a master side: the other side is eligible where its RUN
line is asserted and its timer has not stopped (an expired one whose expiry is not taken counts as running, log 30);
a changed value is handed to the alarm unit, and published where the queue has room (04 R61, R64, R71). -/
def eligibilityDerived (s t : State) : Prop :=
  (t.mast.eligible = true ↔ ∃ m : Side, t.mast.master = some m ∧ runLine t.pins m.other = true
      ∧ t.mast.timer m.other ≠ .stopped)
    ∧ (t.mast.eligible ≠ s.mast.eligible →
        t.alm.conds[mastershipSource] = mastershipSeverity t.mast
        ∧ (imagesApart s → roomFor s 1 → recordQueued t .status .mastership))

/-- The MASTERSHIP event of a change of master side (04 R64, 12 section 12.8). -/
def mastershipAsked (s t : State) (former new : Option Side) (cause : MastCause) (generation : BitVec 16) : Prop :=
  eventAsked s.ring t .mastership
    (place 0 8 (match new with | none => 0 | some .a => 1 | some .b => 2)
      ||| place 8 8 (match former with | none => 0 | some .a => 1 | some .b => 2) ||| place 16 8 cause.code)
    (generation.setWidth 32)

/-- A control record's status word reports a running request. -/
def runningRecord (r : CtlRec) : Prop := r.state = .running ∧ r.outcome = .none ∧ r.detail = 0

/-- The request that a request command writes: its side, record, request word and lock (12 section
12.3). -/
def requestOf : Instr → Option (Side × CtlId × Word × Bool)
  | .claim d g l => some (d, .mastership, (requestValue 1 0 g).value, l)
  | .release d g l => some (d, .mastership, (requestValue 2 0 g).value, l)
  | .commit d g l => some (d, .zoning, (requestValue 1 0 g).value, l)
  | .clone d g l => some (d, .zoning, (requestValue 2 0 g).value, l)
  | .resume d g l => some (d, .zoning, (requestValue 3 0 g).value, l)
  | .abandon d g l => some (d, .zoning, (requestValue 4 0 g).value, l)
  | .restart d g l => some (d, .restart, (requestValue 1 0 g).value, l)
  | .ack d src g l => some (d, .alarmAck, (requestValue 1 src.toNat g).value, l)
  | .install d k g l => some (d, .slot k, (requestValue 1 0 g).value, l)
  | .remove d k g l => some (d, .slot k, (requestValue 2 0 g).value, l)
  | _ => none

/-- The request word of a record stands where the region map says. -/
def requestWordAt (s : State) : CtlId → Prop
  | .mastership => ccpWordAt s 0
  | .zoning => ccpWordAt s 4
  | .restart => ccpWordAt s 8
  | .alarmAck => ccpWordAt s 12
  | .slot k => slotWordAt s k

/-- Whether a command is the end of an access on the table memory port. -/
def portEnd : Instr → Bool
  | .accessEnd _ | .twWritePerformed | .waitingValueJoins | .publishPendingQueued
  | .publishedProducerUpdate | .loadFirstRead | .loadReadData _ | .entryPublicationEnd
  | .operationFirstRead | .closingEnd | .installReadData _ | .commitReadData _ | .flipComplete
  | .cloneReadData _ | .abandonedReadData _ => true
  | _ => false

/-- The addresses of the words that the access in progress stores when it ends. -/
def storedWords (s : State) : List Nat :=
  match s.port.current with
  | some (.twWrite e) => [(currentEntry s.tw e).target]
  | some (.up _ a) =>
    match a.body with
    | .write ops => ops.map fun op => targetAddr s op.target
    | .read _ => []
  | some .twRead => []
  | none => []

/-- The internal read in progress, for which the table writer owns the port, is delivered to operation `op`,
with the word it reads. -/
def reading (s : State) (op : Option ReadOp) (w : Word) : Prop :=
  s.pins.inReset = false ∧ s.port.current = some .twRead ∧ s.port.owner = some .tw
    ∧ ∃ a, s.tw.read = some ⟨a, op⟩ ∧ w = Mem.readWord s.mem a

/-- The write in progress on the port, which the table writer owns, is its entry `e`, as it now stands. -/
def writing (s : State) (e : Entry) : Prop :=
  s.pins.inReset = false ∧ s.port.owner = some .tw ∧ writeInProgress s = some e

/-- The word at which a word of a write is aimed lies in CCP as word `n` of it. -/
def ccpWordNo (s : State) (a n : Nat) : Prop := a = wordAt s.regions.ccp.base n

/-- The word lies in LSA as word `n` of it. -/
def lsaWordNo (s : State) (a n : Nat) : Prop := a = wordAt s.regions.lsa.base n

/-- A write to this address goes to a request word of a control record (01 R9, R10). -/
def requestAddr (s : State) (area : Area) (a : Nat) : Prop :=
  (area = .ccp ∧ ∃ n, ccpWordNo s a n ∧ (n = 0 ∨ n = 4 ∨ n = 8 ∨ n = 12))
    ∨ (area = .lsa ∧ ∃ n, lsaWordNo s a n ∧ n < 64 ∧ n % 8 = 0)

/-- A CCP or LSA word that the part owns against side `d` (01 R9, R10): every CCP word but the request words,
the side's own heartbeat word and the consumer index; the status and refused words of a slot; the body of a
slot that is INSTALLING. -/
def partOwnedAddr (s : State) (d : Side) (area : Area) (a : Nat) : Prop :=
  (area = .ccp ∧ ∃ n, ccpWordNo s a n ∧ n ≠ 0 ∧ n ≠ 4 ∧ n ≠ 8 ∧ n ≠ 12 ∧ n ≠ 28 ∧ n ≠ heartbeatNo d)
    ∨ (area = .lsa ∧ ∃ (k : SlotIx) (j : Nat), lsaWordNo s a (8 * k.val + j) ∧ j < 8
        ∧ (j = 1 ∨ j = 2 ∨ (3 ≤ j ∧ (s.lic.slots[k]).state = .installing)))

/-- Nothing waits for a free queue entry or for a first read. -/
def nothingWaits (s : State) : Prop := s.tw.waiting = [] ∧ s.zon.firstReadDue = false

/-- The governor's figures are those its inputs give, and the committed draw fits them (06 R98, R100). -/
def figuresSettled (s : State) : Prop :=
  s.gov.recompute s.params = s.gov ∧ s.gov.committed ≤ s.gov.headroomDw

/-- What a reference period finds at the link: the two counts that it would reach (10 R161, R168). -/
def linkCounts (clkLow : Bool) (m : Modules) (held busy : Nat) : Prop :=
  held = (if clkLow = true ∧ m.leftover ++ m.attempt.toList ≠ [] then m.heldClock + 1 else 0)
    ∧ busy = (if m.linkBusy = true ∧ (∃ a ∈ m.leftover ++ m.attempt.toList, a.started = false) then
        m.busyCount + 1 else 0)

/-- From `s` to `t` the module's state stays, or the changed one has been handed to the governor and MODULE_STATE asked
for with the new and the former state and the validity of the report (10 R163, 12 section 12.8). -/
def moduleStateTaken (s t : State) (i : ModIx) : Prop :=
  (t.mdl.mods[i]).state ≠ (s.mdl.mods[i]).state →
    t.gov.modState[i] = (t.mdl.mods[i]).state
    ∧ eventAsked s.ring t .moduleState
        (place 0 8 i.val ||| place 8 8 (t.mdl.mods[i]).state.code ||| place 16 8 (s.mdl.mods[i]).state.code
          ||| place 24 8 (t.mdl.mods[i]).validity.code) 0

/-- An attempt for a module at the link address that the descriptor gives it, waiting for a free link (10 R165). -/
def freshAttempt (p : Params) (i : ModIx) (retry : Bool) : Attempt :=
  ⟨i, (p.mods[i]).address, retry, false, false⟩

/-- A round stands at the first of the given positions that is fitted, its attempt begun and those before it judged,
or has ended where none is (10 R163, R164). -/
def roundStandsAt (s t : State) (within : ModIx → Prop) : Prop :=
  (∀ j : ModIx, within j → (s.mdl.mods[j]).pres.level = true →
      (∀ k : ModIx, within k → k < j → (s.mdl.mods[k]).pres.level = false) →
      t.mdl.round = some j ∧ t.mdl.attempt = some (freshAttempt s.params j false)
        ∧ ∀ k : ModIx, within k → k < j → (t.mdl.mods[k]).judged = true)
    ∧ ((∀ j : ModIx, within j → (s.mdl.mods[j]).pres.level = false) →
      t.mdl.round = none ∧ t.mdl.attempt = none ∧ ∀ k : ModIx, within k → (t.mdl.mods[k]).judged = true)

/-- From `s` to `t` position `i` of the round is finished: the round comes to the positions after it, and where none
of them is fitted it ends, and a round that is due begins with the poll timer (10 R164). -/
def positionFinished (s t : State) (i : ModIx) : Prop :=
  ((∃ j : ModIx, i < j ∧ (s.mdl.mods[j]).pres.level = true) ∨ s.mdl.roundDue = false →
      roundStandsAt s t (fun j => i < j) ∧ t.mdl.pollTimer = s.mdl.pollTimer
        ∧ t.mdl.roundDue = s.mdl.roundDue)
    ∧ ((∀ j : ModIx, i < j → (s.mdl.mods[j]).pres.level = false) → s.mdl.roundDue = true →
      roundStandsAt s t (fun _ => True) ∧ t.mdl.pollTimer = .running s.params.pollTicks
        ∧ t.mdl.roundDue = false)

/-- From `s` to `t` the module has been judged, its state taken, and the alarm unit holds the condition that follows
(10 R163, R172). -/
def judgedAndHanded (s t : State) (i : ModIx) : Prop :=
  moduleStateTaken s t i ∧ (t.mdl.mods[i]).judged = true ∧ (t.mdl.mods[i]).state = (t.mdl.mods[i]).derive
    ∧ t.alm.conds[moduleSource i] = moduleSeverity t.params i t.mdl.mods[i]

/-- From `s` to `t` an attempt for module `i` has failed: its failure count rises by one, up to 255, at the third the
report becomes STALE, and the reading is kept (10 R166, R168). -/
def attemptFailed (s t : State) (i : ModIx) (o : LinkOutcome) : Prop :=
  (t.mdl.mods[i]).last = o ∧ judgedAndHanded s t i
    ∧ (imagesApart s → roomFor s 2 → recordQueued t .status (.module i))
    ∧ ((s.mdl.mods[i]).failures ≤ 255 →
      (t.mdl.mods[i]).failures = min 255 ((s.mdl.mods[i]).failures + 1))
    ∧ (t.mdl.mods[i]).reading = (s.mdl.mods[i]).reading
    ∧ (t.mdl.mods[i]).validity = (if (s.mdl.mods[i]).failures = 2 then .stale else (s.mdl.mods[i]).validity)
    ∧ positionFinished s t i

/-- From `s` to `t` the governor has been handed the duties that differ, and each of the given rotors has spun up
again where its tray's duty has risen by 10 points or more and it was in SPINUP or OK, and stands as it stood
where not (09 R151, R154, R159). -/
def dutiesTaken (s t : State) (rotors : RotorIx → Prop) : Prop :=
  (∀ x : TrayIx, t.gov.duty[x] = if (t.fan.trays[x]).duty = (s.fan.trays[x]).duty then s.gov.duty[x]
      else (t.fan.trays[x]).duty)
    ∧ ∀ r : RotorIx, rotors r → t.fan.rotors[r] =
        if (s.fan.trays[trayOf r]).duty + 10 ≤ (t.fan.trays[trayOf r]).duty
            ∧ ((s.fan.rotors[r]).state = .spinup ∨ (s.fan.rotors[r]).state = .ok) then
          { s.fan.rotors[r] with state := .spinup, spin := .running s.params.spinUpTicks, low := 0 }
        else s.fan.rotors[r]

/-- From `s` to `t` the thermal hold set stays, or a changed one has been handed to the governor and THERMAL_HOLD asked
for with its cause: a tray's number, 4 for a recovery, 5 and 6 for the critical hold and its end (09 R158, 12 section
12.8). -/
def holdSetTaken (s t : State) (cause : HoldCause) : Prop :=
  t.fan.holdSet ≠ s.fan.holdSet → t.gov.thermal = t.fan.holdSet
    ∧ eventAsked s.ring t .thermalHold
        (place 0 8 t.fan.holdSet.toNat ||| place 8 8 (t.fan.holdSet &&& ~~~s.fan.holdSet).toNat
          ||| place 16 8 (s.fan.holdSet &&& ~~~t.fan.holdSet).toNat)
        (match cause with
          | .tray y => BitVec.ofNat 32 y.val
          | .recovery => 4
          | .critical => 5
          | .criticalEnd => 6)

/-- From `s` to `t` a grant body is turned away: its slot is REJECTED and holds no grant, and licences and ports
stand as they stood (05 R80, R81). -/
def bodyRejected (s t : State) (k : SlotIx) : Prop :=
  t.gov = s.gov ∧ t.lic = { s.lic with slots := upd s.lic.slots k ⟨.rejected, none, 0, []⟩ }

/-- The GRANT_REJECTED event of a grant body that is turned away (05 R81, 12 section 12.8). -/
def rejectionAsked (s t : State) (k : SlotIx) (o : Outcome) (detail : Nat) : Prop :=
  eventAsked s.ring t .grantRejected (place 0 8 k.val ||| place 8 8 o.code) (BitVec.ofNat 32 detail)

/-- From `s` to `t` the data of an internal read has been handled and its operation asks for no further one: the
head of the read waiting list has its read issued, and with an empty list none is (03 R57). -/
def nextReadIssued (s t : State) : Prop :=
  (∀ x rest, s.tw.readList = x :: rest → t.tw.read = some ⟨x.target, some x.op⟩
      ∧ (nothingWaits s → s.ldr.op ≠ .loading → t.tw.readList = rest))
    ∧ (s.tw.readList = [] → nothingWaits s → s.ldr.op ≠ .loading → t.tw.read = none)

/-- No tick has left anything due (log 2). -/
structure nothingDue (s : State) : Prop where
  second : s.time.secondDue = false
  hour : s.time.hourDue = false
  timerA : s.mast.timerA ≠ .expired
  timerB : s.mast.timerB ≠ .expired
  rotors : ∀ r : RotorIx, (s.fan.rotors[r]).spin ≠ .expired
  falls : ∀ t : TrayIx, (s.fan.trays[t]).fall ≠ .expired
  derates : ∀ t : TrayIx, (s.fan.trays[t]).derate ≠ .expired
  recoveries : ∀ t : TrayIx, (s.fan.trays[t]).recovery ≠ .expired
  pres : ∀ i : ModIx, (s.mdl.mods[i]).pres.due = false
  good : ∀ i : ModIx, (s.mdl.mods[i]).good.due = false
  poll : s.mdl.pollTimer ≠ .expired
  clears : ∀ e ∈ s.alm.list, e.clear ≠ .expired
  flash : s.alm.flash ≠ .expired

end Sys2Proof.Machine
end

