-- ==== Sys2Proof/Certificates/Slice0/Obligations.lean ====
section
/-! DEFINITION. The statements for the provers. -/

open Sys2Proof Sys2Proof.Machine

/-! ### The queue, the resets and the lines -/

/-- A step with a command at the front of the queue is that command's meaning on the queue's rest. -/
def Obligations.StepRunsFrontCommand : Prop :=
  ∀ (c : Instr) (rest : List Instr) (s : State),
    step (s.setPending (c :: rest)) = exec c (s.setPending rest)

/-- A step on an empty queue is one reference period, none under PWRUP_RESET (the model's choice, log 3). In
SUPERVISING the period count of every rotor that is WAITING or TIMING rises by one, and a stalled measurement
that is due is taken before that, the period being the first of the next one (09 R148; log 31). The held-clock
count runs while LINK_CLK is held low with an attempt in flight, the busy count while the link is busy and an
attempt waits for it, and a recovery falls due in the period that would take either above 2,500 (10 R161, R168);
a recovery that is due already is taken before the counts, the model's choice (log 15). The thousandth period is
a tick with the module lines as last sampled (02 R40), as the command TICK would be after the counts (log 3). -/
def Obligations.EmptyQueueStepIsReferencePeriod : Prop :=
  ∀ s : State, s.pending = [] →
    (∃ t, step s = .next t
      ∧ (s.pins.inReset = true → t = s)
      ∧ (s.pins.inReset = false → t.pending = []
          ∧ t.time.refCount = if 1000 ≤ s.time.refCount + 1 then 0 else s.time.refCount + 1)
      ∧ (running s → ∀ r : RotorIx,
        ((s.fan.rotors[r]).phase = .stopped →
          (t.fan.rotors[r]).phase = .stopped ∧ (t.fan.rotors[r]).periods = (s.fan.rotors[r]).periods)
        ∧ ((s.fan.rotors[r]).phase ≠ .stopped → (s.fan.rotors[r]).periods ≠ 65535 →
          (t.fan.rotors[r]).phase = (s.fan.rotors[r]).phase
          ∧ (t.fan.rotors[r]).edges = (s.fan.rotors[r]).edges
          ∧ (t.fan.rotors[r]).periods = (s.fan.rotors[r]).periods + 1)
        ∧ ((s.fan.rotors[r]).phase ≠ .stopped → (s.fan.rotors[r]).periods = 65535 →
          (t.fan.rotors[r]).phase = .waiting ∧ (t.fan.rotors[r]).periods = 1
          ∧ (t.fan.rotors[r]).ring = joinRing (s.fan.rotors[r]).ring 0))
      ∧ (s.pins.inReset = false → s.mdl.stuckDue = false → ∀ held busy : Nat,
          linkCounts s.pins.linkClkLow s.mdl held busy →
          t.mdl.heldClock = min held 2500 ∧ t.mdl.busyCount = min busy 2500
          ∧ (t.mdl.stuckDue = true ↔ 2500 < held ∨ 2500 < busy)))
    ∧ (s.pins.inReset = false →
      (s.ldr.op = .supervising →
        ∀ r : RotorIx, (s.fan.rotors[r]).phase ≠ .stopped → (s.fan.rotors[r]).periods ≠ 65535) →
      ∀ (v u : State) (held busy : Nat),
        v = stuck (if s.ldr.op = .supervising then
              s.setFan { s.fan with rotors := s.fan.rotors.map fun x =>
                if x.phase = .stopped then x else { x with periods := x.periods + 1 } }
            else s) →
        linkCounts v.pins.linkClkLow v.mdl held busy →
        u = v.setMdl { v.mdl with heldClock := min held 2500, busyCount := min busy 2500
                                  stuckDue := decide (2500 < held ∨ 2500 < busy) } →
        (1000 ≤ s.time.refCount + 1 → step s = exec (.tick s.pins.modPres s.pins.modGood) u)
        ∧ (s.time.refCount + 1 < 1000 →
            step s = .next (finish (u.setTime { u.time with refCount := s.time.refCount + 1 }))))

/-- Every command answers a next state in every state, and leaves the queue as it stands. -/
def Obligations.EveryCommandAnswersNext : Prop :=
  ∀ (c : Instr) (s : State), ∃ t, exec c s = .next t ∧ t.pending = s.pending

/-- PWRUP_RESET asserts: an access in progress is cut off, and every other item stays (02 R39; log 9).
Deasserts: the straps are sampled, table memory and the other lines stay, and every piece of state takes its
power-on value: no write is queued or waits, and no internal read is outstanding. While it is asserted every
other command changes at most line levels (02 R39; log 9). -/
def Obligations.PowerUpResetLines : Prop :=
  (∀ s : State, s.pins.inReset = false →
    ∃ t, exec .pwrupResetAssert s = .next t
      ∧ t = (s.setPins { s.pins with inReset := true }).setPort { s.port with current := none })
  ∧ (∀ (m d : BitVec 2) (s : State), s.pins.inReset = true →
    ∃ t, exec (.pwrupResetDeassert m d) s = .next t
      ∧ t = State.powerOn s.pending s.mem { s.pins with inReset := false, memSel := m, descSel := d }
      ∧ t.pins = { s.pins with inReset := false, memSel := m, descSel := d }
      ∧ t.mem = s.mem ∧ t.ldr = Loader.powerOn ∧ t.ldr.op = .transparent ∧ t.ldr.tvalid = false
      ∧ t.params = Params.none ∧ t.bus = Buses.powerOn
      ∧ t.tw.queue = [] ∧ t.tw.waiting = [] ∧ t.tw.read = none ∧ t.tw.readList = []
      ∧ t.mast.timerA = .stopped ∧ t.mast.timerB = .stopped ∧ t.mast.claim = none
      ∧ t.mast.eligible = false
      ∧ t.mast.master = none ∧ t.mast.generation = 0 ∧ t.gov = Governor.powerOn
      ∧ t.lic = Licence.powerOn ∧ t.zon = Zoning.powerOn ∧ t.fan = Fans.powerOn
      ∧ t.mdl = Modules.powerOn ∧ t.alm = Alarms.powerOn ∧ t.ring = Ring.powerOn
      ∧ t.port = PortArb.powerOn ∧ t.ctl = Ctls.powerOn ∧ t.drop = DropRecord.powerOn
      ∧ t.regions = Regions.empty ∧ t.time = TimeBase.powerOn)
  ∧ ∀ (c : Instr) (s : State), s.pins.inReset = true → (∀ m d, c ≠ .pwrupResetDeassert m d) →
    ∃ t, exec c s = .next t ∧ t.setPins s.pins = s ∧ t.pins.inReset = true

/-- The straps are sampled at the deassertion of PWRUP_RESET alone, and give the memory size and the
descriptor base (02 R23). -/
def Obligations.StrapsGiveMemorySizeAndDescriptorBase : Prop :=
  (∀ (m d : BitVec 2) (s : State), s.pins.inReset = true →
    ∃ t, exec (.pwrupResetDeassert m d) s = .next t ∧ t.pins.memSel = m ∧ t.pins.descSel = d)
  ∧ (∀ (c : Instr) (s t : State), (∀ m d, c ≠ .pwrupResetDeassert m d) → exec c s = .next t →
      t.pins.memSel = s.pins.memSel ∧ t.pins.descSel = s.pins.descSel)
  ∧ ∀ x : Pins,
    (x.memSel = 0 → memSize x = 2 * 1024 * 1024) ∧ (x.memSel = 1 → memSize x = 4 * 1024 * 1024)
    ∧ (x.memSel = 2 → memSize x = 8 * 1024 * 1024) ∧ (x.memSel = 3 → memSize x = 16 * 1024 * 1024)
    ∧ descBase x = memSize x * (x.descSel.toNat + 1) / 4 - 512
    ∧ (x.memSel = 0 → x.descSel = 0 → descBase x = 0x07FE00)
    ∧ (x.memSel = 0 → x.descSel = 1 → descBase x = 0x0FFE00)
    ∧ (x.memSel = 0 → x.descSel = 2 → descBase x = 0x17FE00)
    ∧ (x.memSel = 0 → x.descSel = 3 → descBase x = 0x1FFE00)
    ∧ (x.memSel = 1 → x.descSel = 0 → descBase x = 0x0FFE00)
    ∧ (x.memSel = 1 → x.descSel = 1 → descBase x = 0x1FFE00)
    ∧ (x.memSel = 1 → x.descSel = 2 → descBase x = 0x2FFE00)
    ∧ (x.memSel = 1 → x.descSel = 3 → descBase x = 0x3FFE00)
    ∧ (x.memSel = 2 → x.descSel = 0 → descBase x = 0x1FFE00)
    ∧ (x.memSel = 2 → x.descSel = 1 → descBase x = 0x3FFE00)
    ∧ (x.memSel = 2 → x.descSel = 2 → descBase x = 0x5FFE00)
    ∧ (x.memSel = 2 → x.descSel = 3 → descBase x = 0x7FFE00)
    ∧ (x.memSel = 3 → x.descSel = 0 → descBase x = 0x3FFE00)
    ∧ (x.memSel = 3 → x.descSel = 1 → descBase x = 0x7FFE00)
    ∧ (x.memSel = 3 → x.descSel = 2 → descBase x = 0xBFFE00)
    ∧ (x.memSel = 3 → x.descSel = 3 → descBase x = 0xFFFE00)

/-- The driven lines: fixed values outside SUPERVISING and under PWRUP_RESET (02 R24, R39); in
SUPERVISING the alarm lines follow the list (11 R178), PWM the commanded duties (09 R154), ATTN the two
ring indices (11 R183), and the indicator its pattern, which is the first that applies to the list
(11 R179). The link lines are released under PWRUP_RESET, and in every operating state unless the part has begun a
transaction whose start holds LINK_DATA low (10 R161, R165); what the part puts on the link within one event is in
PollRoundsBegin and AttemptsAreJudged (log 26). -/
def Obligations.LinesFollowTheState : Prop :=
  (∀ s : State,
    (s.pins.inReset = true ∨ s.ldr.op ≠ .supervising →
      (lines s).tvalid = false ∧ (∀ i : Fin 4, (lines s).pwm[i] = 100)
      ∧ (lines s).almMinor = false ∧ (lines s).almMajor = false ∧ (lines s).almCrit = false
      ∧ (lines s).almSound = false ∧ (lines s).indGreen = true ∧ (lines s).indRed = true
      ∧ (lines s).brightness = 8 ∧ (lines s).attnA = false ∧ (lines s).attnB = false)
    ∧ (running s →
      (lines s).tvalid = s.ldr.tvalid
      ∧ (∀ i : Fin 4, (lines s).pwm[i] = (s.fan.trays[i]).duty)
      ∧ ((lines s).almMinor = true ↔ ∃ e ∈ s.alm.list, e.severity = .minor)
      ∧ ((lines s).almMajor = true ↔ ∃ e ∈ s.alm.list, e.severity = .major)
      ∧ ((lines s).almCrit = true ↔ ∃ e ∈ s.alm.list, e.severity = .critical)
      ∧ ((lines s).almSound = true ↔
          ∃ e ∈ s.alm.list, (e.severity = .major ∨ e.severity = .critical) ∧ e.acked = false)
      ∧ (lines s).brightness = s.params.brightness
      ∧ ((lines s).attnA = true ↔ s.ring.published ≠ s.ring.consumer)
      ∧ (lines s).attnB = (lines s).attnA
      ∧ (s.alm.pattern = .redFlash → (lines s).indGreen = false ∧ (lines s).indRed = s.alm.lit)
      ∧ (s.alm.pattern = .amberFlash → (lines s).indGreen = s.alm.lit ∧ (lines s).indRed = s.alm.lit)
      ∧ (s.alm.pattern = .amberSteady → (lines s).indGreen = true ∧ (lines s).indRed = true)
      ∧ (s.alm.pattern = .greenSteady → (lines s).indGreen = true ∧ (lines s).indRed = false))
    ∧ (s.pins.inReset = true ∨ s.mdl.wire = [] ∨ (∃ w, s.mdl.wire = w ++ [.stop] ∨ s.mdl.wire = w ++ [.lost]) →
      (lines s).link = ⟨true, true⟩)
    ∧ (s.pins.inReset = false → s.mdl.wire = [.start] → (lines s).link = ⟨true, false⟩))
  ∧ ∀ l : List AlarmEntry,
    ((∃ e ∈ l, e.severity = .critical) → patternOf l = .redFlash)
    ∧ ((∀ e ∈ l, e.severity ≠ .critical) →
      ((∃ e ∈ l, e.severity ≠ .none ∧ e.acked = false) → patternOf l = .amberFlash)
      ∧ ((∀ e ∈ l, e.severity = .none ∨ e.acked = true) →
        (l ≠ [] → patternOf l = .amberSteady) ∧ (l = [] → patternOf l = .greenSteady)))

/-! ### Figures -/

/-- A module's contribution, the available power by redundancy mode, the fan load, the fixed load and the
headroom (06 R94 to R97), and the draw of a port by its speed code (06 R98). The committed draw follows each port that
goes ON or OFF or changes its draw, and every comparison with it uses the headroom in deciwatts: the admission walk,
the shed step, after which it is within the headroom, and the speed test (06 R97, R98). That every event leaves it
the sum of the draws of the ON ports and within the headroom is StepKeepsGovernorSound. -/
def Obligations.SupplyAndFanLoadFigures : Prop :=
  (∀ n : Nat, contribution .healthy n = n ∧ contribution .degraded n = n / 2
    ∧ contribution .failed n = 0 ∧ contribution .absent n = 0)
  ∧ contribution .degraded 2501 = 1250
  ∧ (∀ m : ModState, contribution m 0 = 0)
  ∧ (∀ a b c d : Nat, availableOf .none a b c d = a + b + c + d
    ∧ availableOf .nPlus1 a b c d = a + b + c + d - max (max a b) (max c d)
    ∧ availableOf .grid a b c d = min (a + b) (c + d))
  ∧ (∀ r a b c d, a ≤ 6000 → b ≤ 6000 → c ≤ 6000 → d ≤ 6000 → availableOf r a b c d ≤ 24000)
  ∧ (∀ (p : Params) (g : Governor),
      (∀ i : Fin 4, (g.recompute p).contrib[i] = contribution g.modState[i] (p.mods[i]).capacity)
      ∧ (g.recompute p).available = availableOf p.redundancy (g.recompute p).contrib[0]
          (g.recompute p).contrib[1] (g.recompute p).contrib[2] (g.recompute p).contrib[3]
      ∧ (g.recompute p).fanLoad = ((List.finRange 4).map fun t : TrayIx =>
          if g.trayPresent.getLsbD t.val = true then ((p.trays[t]).maxWatts * g.duty[t] + 99) / 100
          else 0).sum
      ∧ ((∀ t : TrayIx, (p.trays[t]).maxWatts ≤ 300 ∧ g.duty[t] ≤ 100) →
          (g.recompute p).fanLoad ≤ 1200)
      ∧ (g.recompute p).fixedLoad = p.chassisBase
          + ((List.finRange 8).map fun k : SlotIx =>
              if g.slotPresent.getLsbD k.val = true ∧ (p.slots[k]).capable = true then (p.slots[k]).cardBase
              else 0).sum
          + (g.recompute p).fanLoad
      ∧ (p.chassisBase ≤ 3000 → (∀ k : SlotIx, (p.slots[k]).cardBase ≤ 600) →
          (∀ t : TrayIx, (p.trays[t]).maxWatts ≤ 300 ∧ g.duty[t] ≤ 100) →
          (g.recompute p).fixedLoad ≤ 9000)
      ∧ (p.reserve + (g.recompute p).fixedLoad ≤ (g.recompute p).available →
          (g.recompute p).headroom + p.reserve + (g.recompute p).fixedLoad = (g.recompute p).available)
      ∧ ((g.recompute p).available < p.reserve + (g.recompute p).fixedLoad → (g.recompute p).headroom = 0)
      ∧ (g.recompute p).headroomDw = 10 * (g.recompute p).headroom
      ∧ ((∀ i : ModIx, (p.mods[i]).capacity ≤ 6000) → (g.recompute p).headroomDw ≤ 240000))
  ∧ trayLoad true 150 33 = 50
  ∧ ∀ (p : Params) (q : Port) (code : BitVec 2),
      (code = 0 ∨ code = 1 → drawAt p q code = (p.slots[slotOf q]).class1)
      ∧ (code = 2 ∨ code = 3 → drawAt p q code = (p.slots[slotOf q]).class2)
      ∧ (slotOf q).val = q.val / 48
      ∧ 5 ≤ drawAt p.clamp q code ∧ drawAt p.clamp q code ≤ 400
      ∧ ∀ s : State,
        draw s q = drawAt s.params q (s.gov.ports[q]).speed
        ∧ (admitPort q s).gov.committed = s.gov.committed + draw s q
        ∧ (∀ r, (turnOff q r s).gov.committed = s.gov.committed - draw s q)
        ∧ (∀ n t, t = (walkStep (s, n) q).1 → t.gov.committed = s.gov.committed
            ∨ t.gov.committed = s.gov.committed + draw s q
              ∧ s.gov.committed + draw s q + s.params.margin ≤ 10 * s.gov.headroom)
        ∧ ((speedOfOnPort q code s).gov.committed =
            if drawAt s.params q code = draw s q then s.gov.committed
            else if s.gov.committed - draw s q + drawAt s.params q code ≤ 10 * s.gov.headroom then
              s.gov.committed - draw s q + drawAt s.params q code
            else s.gov.committed - draw s q)
        ∧ (s.gov.committed = drawsOn s → (∀ k : SlotIx, (s.params.slots[k]).shedRank ≤ 7) →
            (settle s).gov.committed ≤ 10 * (settle s).gov.headroom)
        ∧ (s.gov.committed = drawsOn s → (∀ x : Port, draw s x ≤ 400) → s.gov.committed ≤ 153600)

/-- An access at or above the memory size completes upstream without a downstream access (01 R2). A read goes to the
arbiter, translated when it is classified and lies in the edit window (01 R3, R12). A one-word write to an OPEN word
passes from either side, and outside SUPERVISING or under BYPASS every write but one to DESC passes raw (01 R1, R2,
R18). From the active side a write to a PCT word that leaves byte 0 disabled or changes neither desired nor speed code
passes with bytes 2 and 3 enabled, the port's status taken when it is performed, and hands nothing to the governor (01
R8); a write to the body of a slot that is not INSTALLING, to LSA from word 64 and to PCT from word 384 passes as
given (01 R8, R9). In SUPERVISING a burst of four words, which wrap in their aligned block, is decided word by word as
single writes are; with a word to perform it goes on as one access, the enables of each other word cleared, and with
none it completes upstream (01 R14). That a word is filtered by the master side that the words before it have left is
the model's choice (log 37). -/
def Obligations.AccessesAreForwarded : Prop :=
  (∀ (s : State) (d : Side) (addr : BitVec 24) (lock : Bool),
      s.pins.inReset = false → busBusy s d = false → memSize s.pins ≤ addr.toNat →
      (∀ burst, ∃ t, exec (.upstreamRead d addr burst lock) s = .next t
        ∧ (t.bus.get d).done = .read (List.replicate (if burst then 4 else 1) (0, true))
        ∧ t.port.wait d = none ∧ t.mem = s.mem ∧ t.drop = s.drop)
      ∧ ∀ data, ∃ t, exec (.upstreamWrite d addr data lock) s = .next t
        ∧ completedWrite t d ∧ t.mem = s.mem ∧ t.drop = s.drop)
  ∧ (∀ (s : State) (d : Side) (addr : BitVec 24) (burst lock : Bool),
      s.pins.inReset = false → busBusy s d = false → addr.toNat % 4 = 0 → addr.toNat < memSize s.pins →
      ∃ t, exec (.upstreamRead d addr burst lock) s = .next t
        ∧ presented t d ⟨addr.toNat, lock, false, .read ((readAddrs addr.toNat burst).map fun a =>
            if s.ldr.op = .supervising ∧ s.pins.bypass = false ∧ areaOf s addr.toNat = .zew then
              .window (a - s.regions.zew.base) s.regions.zb0.base s.regions.zb1.base
            else .plain a)⟩
        ∧ t.mem = s.mem ∧ t.drop = s.drop ∧ t.mast = s.mast ∧ t.gov = s.gov)
  ∧ (∀ (s : State) (d : Side) (addr : BitVec 24) (lock : Bool) (a : Nat → Nat),
      classifying s d → addr.toNat % 4 = 0 → addr.toNat < memSize s.pins →
      (areaOf s addr.toNat = .zew → ¬(s.zon.op = .flipping ∧ s.zon.liveQueued = true)) →
      (∀ i, a i = addr.toNat / 16 * 16 + (addr.toNat % 16 / 4 + i) % 4 * 4) →
      (∀ w : WriteWord, ∃ t, exec (.upstreamWrite d addr (.single w) lock) s = .next t
        ∧ t.drop = (decideWord d addr.toNat w s).1.drop
        ∧ (∀ op, (decideWord d addr.toNat w s).2 = some op →
            presented t d ⟨addr.toNat, lock, false, .write [op]⟩)
        ∧ ((decideWord d addr.toNat w s).2 = none → completedWrite t d))
      ∧ ∀ (w0 w1 w2 w3 : WriteWord) (r0 r1 r2 r3 : Decided),
        r0 = decideWord d (a 0) w0 s → r1 = decideWord d (a 1) w1 r0.1 →
        r2 = decideWord d (a 2) w2 r1.1 → r3 = decideWord d (a 3) w3 r2.1 →
        ∃ t, exec (.upstreamWrite d addr (.burst w0 w1 w2 w3) lock) s = .next t
          ∧ t.drop = r3.1.drop
          ∧ (r0.2 ≠ none ∨ r1.2 ≠ none ∨ r2.2 ≠ none ∨ r3.2 ≠ none →
            presented t d ⟨addr.toNat, lock, false, .write
              [r0.2.getD ⟨.plain (a 0), w0.value, 0, none⟩, r1.2.getD ⟨.plain (a 1), w1.value, 0, none⟩,
               r2.2.getD ⟨.plain (a 2), w2.value, 0, none⟩, r3.2.getD ⟨.plain (a 3), w3.value, 0, none⟩]⟩)
          ∧ (r0.2 = none → r1.2 = none → r2.2 = none → r3.2 = none → completedWrite t d))
  ∧ (∀ (s : State) (d : Side) (addr : BitVec 24) (w : WriteWord) (lock : Bool),
      s.pins.inReset = false → busBusy s d = false → addr.toNat % 4 = 0 → addr.toNat < memSize s.pins →
      (areaOf s addr.toNat = .open ∨ s.pins.bypass = true
        ∨ (s.ldr.op ≠ .supervising ∧ (descRegion s.pins).holds addr.toNat = false)) →
      ∃ t, exec (.upstreamWrite d addr (.single w) lock) s = .next t
        ∧ presented t d (plainWrite addr.toNat w lock)
        ∧ t.mem = s.mem ∧ t.drop = s.drop ∧ t.mast = s.mast ∧ t.gov = s.gov ∧ t.ldr.op = s.ldr.op)
  ∧ ∀ (s : State) (d : Side) (addr : BitVec 24) (w : WriteWord) (lock : Bool), activeSide s d →
      (∀ q : Port, pctWordAt s q → addr.toNat = s.regions.pct.base + 4 * q.val →
        w.enables.getLsbD 0 = false ∨ (w.value.getLsbD 0 = (s.gov.ports[q]).desired
          ∧ w.value.extractLsb' 1 2 = (s.gov.ports[q]).speed) →
        ∃ t, exec (.upstreamWrite d addr (.single w) lock) s = .next t
          ∧ presented t d ⟨addr.toNat, lock, false,
              .write [⟨.plain addr.toNat, w.value, w.enables ||| 0b1100, some q⟩]⟩
          ∧ t.gov = s.gov ∧ t.lic = s.lic ∧ t.mem = s.mem ∧ t.drop = s.drop)
      ∧ ((wordIn s .pct addr.toNat ∧ s.regions.pct.base + 1536 ≤ addr.toNat)
          ∨ (wordIn s .lsa addr.toNat ∧ s.regions.lsa.base + 256 ≤ addr.toNat)
          ∨ (wordIn s .lsa addr.toNat ∧ ∃ (k : SlotIx) (j : Nat), 3 ≤ j ∧ j < 8
            ∧ addr.toNat = s.regions.lsa.base + 4 * (8 * k.val + j)
            ∧ (s.lic.slots[k]).state ≠ .installing) →
        ∃ t, exec (.upstreamWrite d addr (.single w) lock) s = .next t
          ∧ presented t d (plainWrite addr.toNat w lock)
          ∧ t.gov = s.gov ∧ t.lic = s.lic ∧ t.ctl.slots = s.ctl.slots ∧ t.mem = s.mem ∧ t.drop = s.drop)

/-- A one-word write that the side filter or the ownership rules turn away is dropped and entered in the
drop record, and changes nothing else (01 R4 to R7, R9, R10, R15, R16). A burst from a side that is not
active, no word of it exempt, completes upstream, and its four words are entered in burst order (01 R14). Where
the queue has room the four words of the drop record are queued, of the form of 12 section 12.7, as STATUS
entries (01 R16, 03 R55). -/
def Obligations.DroppedWriteIsRecorded : Prop :=
  (∀ (s : State) (d : Side) (addr : BitVec 24) (w0 w1 w2 w3 : WriteWord) (lock : Bool) (r : DropReason)
      (a : Nat → Nat),
    classifying s d → addr.toNat % 4 = 0 → addr.toNat < memSize s.pins →
    (s.mast.master = none ∧ r = .noMaster ∨ s.mast.master = some d.other ∧ r = .standby) →
    (∀ i, a i = addr.toNat / 16 * 16 + (addr.toNat % 16 / 4 + i) % 4 * 4) →
    (∀ i < 4, exempt s d (a i) = false) →
    ∃ t, exec (.upstreamWrite d addr (.burst w0 w1 w2 w3) lock) s = .next t
      ∧ completedWrite t d
      ∧ t.drop = dropEntered (dropEntered (dropEntered (dropEntered s.drop (a 0) d r) (a 1) d r) (a 2) d r)
          (a 3) d r
      ∧ t.mem = s.mem ∧ t.mast = s.mast ∧ t.gov = s.gov ∧ t.lic = s.lic ∧ t.ldr.op = s.ldr.op
      ∧ (roomFor s 4 → recordQueued t .status .drop))
  ∧ (∀ s : State, recordWords s .drop =
      [⟨s.regions.esa.base, place 0 16 s.drop.count, 0b1111⟩,
       ⟨s.regions.esa.base + 4, place 0 24 s.drop.addr, 0b1111⟩,
       ⟨s.regions.esa.base + 8, place 0 8 (match s.drop.side with | .a => 1 | .b => 2), 0b1111⟩,
       ⟨s.regions.esa.base + 12, place 0 8 s.drop.reason.code, 0b1111⟩])
  ∧ [DropReason.standby, .noMaster, .partOwned, .stagingSuspended, .lockedDescriptor, .partialRequest].map
      DropReason.code = List.range 6
  ∧ (∀ lo len v i : Nat, (place lo len v).getLsbD i
      = (decide (lo ≤ i) && decide (i < lo + len) && decide (i < 32) && v.testBit (i - lo)))
  ∧ ∀ (s : State) (d : Side) (addr : BitVec 24) (w : WriteWord) (lock : Bool) (area : Area) (r : DropReason),
    classifying s d → wordIn s area addr.toNat →
    ((s.mast.master = none ∧ exempt s d addr.toNat = false ∧ r = .noMaster)
      ∨ (s.mast.master = some d.other ∧ exempt s d addr.toNat = false ∧ r = .standby)
      ∨ (s.mast.master = some d ∧ (area = .bank ∨ area = .esa ∨ area = .evr) ∧ r = .partOwned)
      ∨ (s.mast.master = some d ∧ area = .desc ∧ r = .lockedDescriptor)
      ∨ (s.mast.master = some d ∧ partOwnedAddr s d area addr.toNat ∧ r = .partOwned)
      ∨ (sideFilter s d addr.toNat = none ∧ requestAddr s area addr.toNat ∧ w.enables ≠ 0b1111
          ∧ r = .partialRequest)) →
    ∃ t, exec (.upstreamWrite d addr (.single w) lock) s = .next t
      ∧ completedWrite t d ∧ t.drop = dropEntered s.drop addr.toNat d r
      ∧ t.mem = s.mem ∧ t.mast = s.mast ∧ t.gov = s.gov ∧ t.lic = s.lic ∧ t.ldr.op = s.ldr.op
      ∧ (roomFor s 4 → recordQueued t .status .drop)

/-- LOAD_START in TRANSPARENT enters LOADING and queues the LOADING verdict; DESCRIPTOR_CHANGED in
LOADING returns to TRANSPARENT. The write passes raw in both (01 R7, 02 R25, R27). -/
def Obligations.DescriptorWritesStartAndEndLoads : Prop :=
  ∀ (s : State) (d : Side) (w : WriteWord) (lock : Bool), outside s d →
    (s.ldr.op = .transparent →
      ∃ t, exec (.loadStart d w lock) s = .next t
        ∧ t.ldr.op = .loading ∧ t.ldr.side = d ∧ t.ldr.position = 0 ∧ t.ldr.crc = 0xFFFFFFFF#32
        ∧ t.ldr.image = [] ∧ t.ldr.awaitStart = true ∧ t.mem = s.mem
        ∧ presented t d ⟨descBase s.pins + 508, lock, true,
            .write [⟨.plain (descBase s.pins + 508), w.value, w.enables, none⟩]⟩
        ∧ (s.tw.waiting = [] → s.tw.queue.length < 16 →
            queuedValue t (descBase s.pins + 4) (verdictWord .loading 0 0)))
    ∧ ∀ n : Fin 128, s.ldr.op = .loading →
      ∃ t, exec (.descriptorChanged d n w lock) s = .next t
        ∧ t.ldr.op = .transparent ∧ t.mem = s.mem
        ∧ presented t d (plainWrite (descBase s.pins + 4 * n.val) w lock)
        ∧ (s.tw.waiting = [] → s.tw.queue.length < 16 →
            queuedValue t (descBase s.pins + 4) (verdictWord .descriptorChanged 0 n.val))

/-! ### Descriptor loading -/

/-- LOAD_FIRST_READ: the write that started the load is performed and the first read, of descriptor word 0,
is issued (02 R25). LOAD_READ_DATA: a check error ends the load with verdict MEMORY_ERROR, whose detail is the
position of the read in the sequence, and no read follows; the data of a read before the last has the next one of the
sequence issued: of the DESC words in turn, of the words of the PCT region that the descriptor gives, and of word 26
of its CCP region (02 R26, R28); a descriptor word before the last joins
the image and, but for word 1, the CRC; with the last the descriptor is judged; a PCT word's desired bit and
speed code are kept (02 R26, R28 to R33). The verdicts have the numbers 0 to 9 of 12 section 12.1, and the verdict word
the form of 12 section 12.2. -/
def Obligations.LoadReadsAreIssuedAndTaken : Prop :=
  [Verdict.none, .loading, .accepted, .badCrc, .badVersion, .badRegion, .badCurve, .badLimit, .descriptorChanged,
      .memoryError].map Verdict.code = List.range 10
  ∧ (∀ (v : Verdict) (clamps detail : Nat),
      verdictWord v clamps detail = place 0 8 v.code ||| place 8 8 clamps ||| place 16 16 detail)
  ∧ (∀ (s : State) (d : Side) (a : Access) (ops : List WordOp),
      s.pins.inReset = false → s.port.current = some (.up d a) → a.startsLoad = true → a.body = .write ops →
      s.ldr.op = .loading → s.ldr.side = d → s.ldr.awaitStart = true → s.ldr.position = 0 →
      nothingWaits s → s.tw.read = none → s.tw.readList = [] →
      ∃ t, exec .loadFirstRead s = .next t
        ∧ t.ldr.awaitStart = false ∧ t.tw.read = some ⟨descBase s.pins, some .loader⟩
        ∧ (t.bus.get d).done = .write)
  ∧ (∀ (s : State) (w : Word), reading s (some .loader) w → s.ldr.op = .loading →
      (∃ t, exec (.loadReadData true) s = .next t ∧ t.ldr.op = .transparent ∧ t.mem = s.mem
        ∧ (roomFor s 1 → queuedValue t (descBase s.pins + 4)
            (place 0 8 9 ||| place 16 16 s.ldr.position))
        ∧ (nothingWaits s → s.tw.readList = [] → t.tw.read = none))
      ∧ (s.tw.readList = [] → s.ldr.position < 512 → s.ldr.position ≠ 127 →
        ∃ t, exec (.loadReadData false) s = .next t
          ∧ t.tw.read = some ⟨if s.ldr.position < 127 then descBase s.pins + 4 * (s.ldr.position + 1)
              else if s.ldr.position < 511 then s.ldr.candidateRegions.pct.base + 4 * (s.ldr.position - 127)
              else s.ldr.candidateRegions.ccp.base + 104, some .loader⟩)
      ∧ (s.ldr.position < 127 →
        ∃ t, exec (.loadReadData false) s = .next t
          ∧ t.ldr.op = s.ldr.op ∧ t.ldr.position = s.ldr.position + 1
          ∧ t.ldr.image = s.ldr.image ++ [w]
          ∧ t.ldr.crc = (if s.ldr.position = 1 then s.ldr.crc else crc32Word s.ldr.crc w)
          ∧ t.mem = s.mem)
      ∧ (s.ldr.position = 127 →
        (∀ v n, descriptorFault s.pins s.ldr.crc (s.ldr.image ++ [w]) = some (v, n) →
          ∃ t, exec (.loadReadData false) s = .next t ∧ t.ldr.op = .transparent ∧ t.mem = s.mem
            ∧ (s.tw.waiting = [] → s.tw.queue.length < 16 →
                queuedValue t (descBase s.pins + 4) (verdictWord v 0 n)))
        ∧ (descriptorFault s.pins s.ldr.crc (s.ldr.image ++ [w]) = none →
          ∃ t, exec (.loadReadData false) s = .next t ∧ t.ldr.op = .loading ∧ t.ldr.position = 128
            ∧ t.ldr.candidate = (imageParams (s.ldr.image ++ [w])).clamp
            ∧ t.ldr.clampCount = (imageParams (s.ldr.image ++ [w])).clampCount
            ∧ t.ldr.candidateRegions = imageRegions (s.ldr.image ++ [w])
            ∧ (s.tw.readList = [] →
                t.tw.read = some ⟨(imageRegion (s.ldr.image ++ [w]) 0).base, some .loader⟩)
            ∧ t.mem = s.mem))
      ∧ (128 ≤ s.ldr.position → s.ldr.position < 512 →
        ∃ t, exec (.loadReadData false) s = .next t
          ∧ t.ldr.op = s.ldr.op ∧ t.ldr.position = s.ldr.position + 1
          ∧ t.ldr.pctImage = s.ldr.pctImage ++ [⟨w.getLsbD 0, w.extractLsb' 1 2⟩]
          ∧ t.mem = s.mem))

/-- The checks of a descriptor in their order: CRC, version, regions one by one, overlap, curve, limits; the
first fault gives the verdict and its detail (02 R29 to R31). An accepted one is clamped, and the clamp count
is the number of fields changed, at most 255 (02 R32). The CRC runs over each byte least significant bit first, each
word's bytes in ascending address (02 R29), and the parameters are read from the fields of 12 section 12.2. -/
def Obligations.DescriptorIsJudgedAndClamped : Prop :=
  (∀ (c w : Word), crc32Word c w =
      ((List.range 32).foldl (fun (r : Word) i =>
        (r >>> 1) ^^^ (if (r.getLsbD 0 ^^ w.getLsbD i) = true then 0xEDB88320#32 else 0)) c))
  ∧ (∀ (img : List Word) (p : Params) (w : Nat → Nat), p = imageParams img →
      (∀ n, w n = (imageWord img n).toNat ∧ imageWord img n = img[n]?.getD 0) →
      p.serial.toNat = w 3 * 2 ^ 32 + w 2
      ∧ (∀ k : SlotIx, (p.slots[k]).class1 = w (20 + 2 * k.val) % 65536
          ∧ (p.slots[k]).class2 = w (20 + 2 * k.val) / 65536
          ∧ (p.slots[k]).cardBase = w (21 + 2 * k.val) % 65536
          ∧ (p.slots[k]).shedRank = w (21 + 2 * k.val) / 65536 % 256
          ∧ ((p.slots[k]).capable = true ↔ w (21 + 2 * k.val) / 2 ^ 31 = 1))
      ∧ (∀ y : TrayIx, (p.trays[y]).maxRpm = w (36 + 2 * y.val) % 65536
          ∧ (p.trays[y]).maxWatts = w (36 + 2 * y.val) / 65536
          ∧ (p.trays[y]).cooling.toNat = w (37 + 2 * y.val) % 256)
      ∧ (∀ i : ModIx, (p.mods[i]).capacity = w (44 + i.val) % 65536
          ∧ (p.mods[i]).address.toNat = w (44 + i.val) / 65536 % 128)
      ∧ (p.redundancy = .none ↔ w 48 % 256 = 0) ∧ (p.redundancy = .nPlus1 ↔ w 48 % 256 = 1)
      ∧ (p.mode = .fixed ↔ w 48 / 256 % 256 = 0)
      ∧ p.brightness = w 48 / 65536 % 256 ∧ p.minDuty = w 48 / 2 ^ 24
      ∧ p.reserve = w 49 % 65536 ∧ p.chassisBase = w 49 / 65536 ∧ p.margin = w 50 % 65536
      ∧ (∀ i : Fin 4, (p.curve[i]).temp = ((imageWord img (51 + i.val / 2)).extractLsb' (16 * (i.val % 2)) 8).toInt
          ∧ (p.curve[i]).duty = w (51 + i.val / 2) / 2 ^ (16 * (i.val % 2) + 8) % 256)
      ∧ p.warn = ((imageWord img 53).extractLsb' 0 8).toInt
      ∧ p.critical = ((imageWord img 53).extractLsb' 8 8).toInt
      ∧ p.spinUpTicks = w 54 % 65536 ∧ p.derateTicks = w 54 / 65536
      ∧ p.heartbeatTicks = w 55 % 65536 ∧ p.pollTicks = w 55 / 65536
      ∧ p.kindMask.toNat = w 56 ∧ p.ringCapacity = w 57 % 65536
      ∧ p.zoneLimit = w 58 % 65536 ∧ p.memberLimit = w 58 / 65536
      ∧ p.baseGroups.toNat = w 60 % 65536 * 2 ^ 32 + w 59
      ∧ imageCurve img = p.curve
      ∧ imageRegions img = ⟨imageRegion img 0, imageRegion img 1, imageRegion img 2, imageRegion img 3,
          imageRegion img 4, imageRegion img 5, imageRegion img 6, imageRegion img 7⟩)
  ∧ (∀ (x : Pins) (crc : Word) (img : List Word),
    (~~~crc ≠ imageWord img 127 → descriptorFault x crc img = some (.badCrc, 0))
    ∧ (~~~crc = imageWord img 127 →
      (field (imageWord img 0) 0 16 ≠ 1 → descriptorFault x crc img = some (.badVersion, 0))
      ∧ (field (imageWord img 0) 0 16 = 1 →
        (∀ r < 8, regionFaulty (memSize x) img r = true →
          (∀ j < r, regionFaulty (memSize x) img j = false) →
          descriptorFault x crc img = some (.badRegion, r))
        ∧ ((∀ r < 8, regionFaulty (memSize x) img r = false) →
          (∀ i j, i < j → j < 9 → (overlapRegion x img i).overlaps (overlapRegion x img j) = true →
            (∀ a < i, ∀ b < 9, a < b →
              (overlapRegion x img a).overlaps (overlapRegion x img b) = false) →
            descriptorFault x crc img = some (.badRegion, i))
          ∧ ((∀ i j, i < j → j < 9 →
              (overlapRegion x img i).overlaps (overlapRegion x img j) = false) →
            (∀ n, curveFault (imageCurve img) = some n →
              descriptorFault x crc img = some (.badCurve, n))
            ∧ (curveFault (imageCurve img) = none →
              (∀ n, limitFault img = some n → descriptorFault x crc img = some (.badLimit, n))
              ∧ (limitFault img = none → descriptorFault x crc img = none)))))))
  ∧ (∀ (size : Nat) (img : List Word) (r : Fin 8) (x : Region), x = imageRegion img r.val →
      (regionFaulty size img r.val = true ↔
        (x.base = x.limit ∧ r ≠ 1 ∧ r ≠ 7) ∨ x.base % 64 ≠ 0 ∨ x.limit % 64 ≠ 0 ∨ x.limit < x.base
        ∨ size < x.limit
        ∨ (r = 0 ∧ x.limit - x.base < 1536) ∨ (r = 1 ∧ x.base ≠ x.limit ∧ x.limit - x.base < 256)
        ∨ (r = 2 ∧ x.limit - x.base ≠ 1024)
        ∨ (r = 3 ∧ (x.limit - x.base < 1024 ∨ 65536 < x.limit - x.base))
        ∨ ((r = 4 ∨ r = 5) ∧ x.limit - x.base ≠ (imageRegion img 3).limit - (imageRegion img 3).base)
        ∨ (r = 6 ∧ x.limit - x.base < 512)
        ∨ (r = 7 ∧ x.base ≠ x.limit ∧ x.limit - x.base ≠ 16 * field (imageWord img 57) 0 16)))
  ∧ (∀ x y : Region, x.overlaps y = true ↔
      ∃ a, x.base ≤ a ∧ a < x.limit ∧ y.base ≤ a ∧ a < y.limit)
  ∧ (∀ (x : Pins) (img : List Word) (r : Nat),
      overlapRegion x img 8 = ⟨descBase x, descBase x + 512⟩
      ∧ (r < 8 → overlapRegion x img r = imageRegion img r)
      ∧ imageRegion img r = ⟨(imageWord img (4 + 2 * r)).toNat, (imageWord img (5 + 2 * r)).toNat⟩)
  ∧ (∀ (cv : Vector CurvePoint 4) (faulty : Fin 4 → Prop),
      (∀ i : Fin 4, faulty i ↔ (100 < (cv[i]).duty
        ∨ ∃ j : Fin 4, j.val + 1 = i.val ∧ ((cv[i]).temp ≤ (cv[j]).temp ∨ (cv[i]).duty < (cv[j]).duty))) →
      (curveFault cv = none ↔ ∀ i, ¬faulty i)
      ∧ ∀ i : Fin 4, curveFault cv = some i.val ↔ (faulty i ∧ ∀ j, j < i → ¬faulty j))
  ∧ (∀ (img : List Word) (ring zones members redundancy mode : Prop),
      (ring ↔ (imageRegion img 7).base ≠ (imageRegion img 7).limit
        ∧ (field (imageWord img 57) 0 16 < 16 ∨ 1024 < field (imageWord img 57) 0 16)) →
      (zones ↔ field (imageWord img 58) 0 16 = 0) → (members ↔ field (imageWord img 58) 16 16 = 0) →
      (redundancy ↔ 2 < field (imageWord img 48) 0 8) → (mode ↔ 1 < field (imageWord img 48) 8 8) →
      (limitFault img = some 0 ↔ ring) ∧ (limitFault img = some 1 ↔ ¬ring ∧ zones)
      ∧ (limitFault img = some 2 ↔ ¬ring ∧ ¬zones ∧ members)
      ∧ (limitFault img = some 3 ↔ ¬ring ∧ ¬zones ∧ ¬members ∧ redundancy)
      ∧ (limitFault img = some 4 ↔ ¬ring ∧ ¬zones ∧ ¬members ∧ ¬redundancy ∧ mode)
      ∧ (limitFault img = none ↔ ¬ring ∧ ¬zones ∧ ¬members ∧ ¬redundancy ∧ ¬mode))
  ∧ (∀ p : Params,
      (∀ k : SlotIx, p.clamp.slots[k] = ⟨(p.slots[k]).capable, max 5 (min 400 (p.slots[k]).class1),
        max 5 (min 400 (p.slots[k]).class2), min 600 (p.slots[k]).cardBase,
        min 7 (p.slots[k]).shedRank⟩)
      ∧ (∀ y : TrayIx, p.clamp.trays[y] = ⟨max 1000 (min 30000 (p.trays[y]).maxRpm),
        min 300 (p.trays[y]).maxWatts, (p.trays[y]).cooling⟩)
      ∧ (∀ i : ModIx, p.clamp.mods[i] = ⟨min 6000 (p.mods[i]).capacity, (p.mods[i]).address⟩)
      ∧ p.clamp.reserve = min 2000 p.reserve ∧ p.clamp.chassisBase = min 3000 p.chassisBase
      ∧ p.clamp.margin = min 5000 p.margin ∧ p.clamp.minDuty = max 10 (min 100 p.minDuty)
      ∧ p.clamp.spinUpTicks = max 100 (min 1000 p.spinUpTicks)
      ∧ p.clamp.derateTicks = max 100 (min 6000 p.derateTicks)
      ∧ p.clamp.heartbeatTicks = max 10 (min 2550 p.heartbeatTicks)
      ∧ p.clamp.pollTicks = max 10 (min 1000 p.pollTicks)
      ∧ p.clamp.zoneLimit = max 1 (min 1024 p.zoneLimit)
      ∧ p.clamp.memberLimit = max 1 (min 16384 p.memberLimit)
      ∧ p.clamp.brightness = max 1 (min 8 p.brightness)
      ∧ p.clamp.critical = (if p.critical = -128 then -127 else p.critical)
      ∧ p.clamp.warn = (if p.clamp.critical ≤ p.warn then p.clamp.critical - 1 else p.warn)
      ∧ p.clamp.serial = p.serial ∧ p.clamp.kindMask = p.kindMask ∧ p.clamp.baseGroups = p.baseGroups
      ∧ p.clamp.curve = p.curve ∧ p.clamp.redundancy = p.redundancy ∧ p.clamp.mode = p.mode
      ∧ p.clamp.ringCapacity = p.ringCapacity
      ∧ ∀ changed : Int → Int → Nat, (∀ a b, changed a b = if a = b then 0 else 1) →
        p.clampCount = min 255
          (((List.finRange 8).map fun k : SlotIx =>
              changed (p.slots[k]).class1 (p.clamp.slots[k]).class1
              + changed (p.slots[k]).class2 (p.clamp.slots[k]).class2
              + changed (p.slots[k]).cardBase (p.clamp.slots[k]).cardBase
              + changed (p.slots[k]).shedRank (p.clamp.slots[k]).shedRank).sum
            + ((List.finRange 4).map fun y : TrayIx =>
              changed (p.trays[y]).maxRpm (p.clamp.trays[y]).maxRpm
              + changed (p.trays[y]).maxWatts (p.clamp.trays[y]).maxWatts).sum
            + ((List.finRange 4).map fun i : ModIx =>
              changed (p.mods[i]).capacity (p.clamp.mods[i]).capacity).sum
            + changed p.reserve p.clamp.reserve + changed p.chassisBase p.clamp.chassisBase
            + changed p.margin p.clamp.margin + changed p.minDuty p.clamp.minDuty
            + changed p.spinUpTicks p.clamp.spinUpTicks + changed p.derateTicks p.clamp.derateTicks
            + changed p.heartbeatTicks p.clamp.heartbeatTicks + changed p.pollTicks p.clamp.pollTicks
            + changed p.zoneLimit p.clamp.zoneLimit + changed p.memberLimit p.clamp.memberLimit
            + changed p.brightness p.clamp.brightness + changed p.critical p.clamp.critical
            + changed p.warn p.clamp.warn))

/-- LOAD_READ_DATA with the live word: the part enters SUPERVISING with the descriptor's parameters and regions; the
loading side is master, or none is when its RUN line is deasserted (02 R34, R35, 04 R59), and the entry publication
begins. With the units at their power-on values, as they are in LOADING (StepKeepsUnitLaws), the governor starts from
the PCT image and SLOT_PRES and has settled once: with no module judged there is no power, so a wanted port of a
present, capable slot is held in ascending order, UNLICENSED or POWER, unless it draws nothing (02 R35, 06 R93, 07
R104, R109); the fan unit starts the rotors of the present trays, and the derate timers of the counted ones that are
absent (09 R146); the alarm unit lists, lowest number first, the sources whose units stand above NONE, and then those
of the modules that the first round passes (11 R173, 10 R164, R172), an order of one event that is the model's choice
(log 10); and DESCRIPTOR_TAKEN is asked for. The publication is the sequence of 02 R36, and an entry of it takes the
values that the units hold when it is queued: it carries every word of every published record. -/
def Obligations.LiveWordEntersSupervising : Prop :=
  (∀ (s : State) (w : Word), reading s (some .loader) w → s.ldr.op = .loading → s.ldr.position = 512 →
    ∃ t, exec (.loadReadData false) s = .next t
      ∧ t.ldr.op = .supervising ∧ t.params = s.ldr.candidate ∧ t.regions = s.ldr.candidateRegions
      ∧ (runLine s.pins s.ldr.side = true →
          t.mast.master = some s.ldr.side ∧ t.mast.generation = 0
          ∧ t.mast.timer s.ldr.side = .running s.ldr.candidate.heartbeatTicks
          ∧ t.mast.timer s.ldr.side.other = .stopped)
      ∧ (runLine s.pins s.ldr.side = false → t.mast.master = none ∧ t.mast.generation = 1)
      ∧ t.lic.base = s.ldr.candidate.baseGroups
      ∧ (∀ k : SlotIx, (t.lic.slots[k]).state = .empty)
      ∧ t.zon.liveBank = (if w.extractLsb' 0 8 = 1 then 1 else 0)
      ∧ t.zon.liveGen = (if w.extractLsb' 0 8 = 0 ∨ w.extractLsb' 0 8 = 1 then w.extractLsb' 16 16 else 0)
      ∧ t.time.seconds = 0 ∧ t.time.hourCount = 0 ∧ t.mem = s.mem
      ∧ t.ldr.tvalid = s.ldr.tvalid ∧ (∃ i, t.ldr.pub = some i) ∧ .publication ∈ t.tw.waiting
      ∧ eventAsked Ring.powerOn t .descriptorTaken (place 0 8 (match s.ldr.side with | .a => 1 | .b => 2))
          (BitVec.ofNat 32 s.ldr.clampCount)
      ∧ (runLine s.pins s.ldr.side = false →
          eventAsked Ring.powerOn t .mastership
            (place 8 8 (match s.ldr.side with | .a => 1 | .b => 2) ||| place 16 8 2) 1))
  ∧ (∀ (s : State) (w : Word) (p : Params) (up wanted : Port → Bool), reading s (some .loader) w →
      s.ldr.op = .loading → s.ldr.position = 512 → unitsAtRest s → p = s.ldr.candidate →
      (∀ q, up q = (s.pins.slotPres.getLsbD (q.val / 48) && (p.slots[slotOf q]).capable)) →
      (∀ q, wanted q = (up q && (s.ldr.pctImage[q.val]?.any fun f => f.desired))) →
      ∃ t, exec (.loadReadData false) s = .next t
        ∧ t.gov.slotPresent = s.pins.slotPres ∧ t.gov.trayPresent = s.pins.trayPres ∧ t.gov.thermal = 0
        ∧ t.gov.available = 0 ∧ t.gov.headroom = 0
        ∧ (∀ q : Port, (t.gov.ports[q]).desired = (s.ldr.pctImage[q.val]?.any fun f => f.desired)
            ∧ (∀ f, s.ldr.pctImage[q.val]? = some f → (t.gov.ports[q]).speed = f.speed)
            ∧ (up q = false → (t.gov.ports[q]).reason = .slotEmpty)
            ∧ (up q = true → (t.gov.ports[q]).desired = false → (t.gov.ports[q]).reason = .notRequested)
            ∧ (wanted q = true → p.baseGroups.getLsbD (q.val / 8) = false →
                (t.gov.ports[q]).reason = .unlicensed)
            ∧ (wanted q = true → p.baseGroups.getLsbD (q.val / 8) = true →
                draw t q + p.margin ≠ 0 → (t.gov.ports[q]).reason = .power)
            ∧ (wanted q = false ∨ p.baseGroups.getLsbD (q.val / 8) = false ∨ draw t q + p.margin ≠ 0 →
                (t.gov.ports[q]).effective = false)
            ∧ (t.gov.ports[q]).source
                = if p.baseGroups.getLsbD (q.val / 8) = true then .base else .none)
        ∧ t.gov.held = (allPorts.filter fun q => wanted q && !(t.gov.ports[q]).effective)
        ∧ (∀ y : TrayIx, t.fan.trays[y] = (if s.pins.trayPres.getLsbD y.val = true then
              { Tray.powerOn with state := .ok }
            else if (p.trays[y]).cooling ≠ 0 then
              { Tray.powerOn with recovered := false, derate := .running p.derateTicks }
            else Tray.powerOn))
        ∧ (∀ r : RotorIx, t.fan.rotors[r] = (if s.pins.trayPres.getLsbD (r.val / 2) = true then
              { Rotor.powerOn with state := .spinup, spin := .running p.spinUpTicks, phase := .waiting }
            else Rotor.powerOn))
        ∧ t.fan.target = 100 ∧ t.fan.tc = none ∧ t.fan.critHold = false ∧ t.fan.holdSet = 0
        ∧ t.mdl.pollTimer = .running p.pollTicks ∧ t.mdl.roundDue = false
        ∧ (∀ i : ModIx, (s.mdl.mods[i]).pres.level = true →
            (∀ j : ModIx, j < i → (s.mdl.mods[j]).pres.level = false) →
            t.mdl.round = some i ∧ t.mdl.attempt = some (freshAttempt p i false))
        ∧ ((∀ i : ModIx, (s.mdl.mods[i]).pres.level = false) → t.mdl.round = none)
        ∧ (∀ r : RotorIx, t.alm.conds[rotorSource r] = .none)
        ∧ (∀ y : TrayIx, t.alm.conds[traySource y] =
            if s.pins.trayPres.getLsbD y.val = false ∧ (p.trays[y]).cooling ≠ 0 then .major else .none)
        ∧ (∀ i : ModIx, t.alm.conds[moduleSource i] =
            if (∀ j : ModIx, j ≤ i → (s.mdl.mods[j]).pres.level = false) ∧ (p.mods[i]).capacity ≠ 0 then .minor
            else .none)
        ∧ t.alm.conds[thermalSource] = .minor
        ∧ t.alm.conds[budgetSource] = (if ∃ q, wanted q = true then .critical else .none)
        ∧ t.alm.conds[licenseSource] =
            (if ∃ q : Port, wanted q = true ∧ p.baseGroups.getLsbD (q.val / 8) = false then .minor else .none)
        ∧ t.alm.conds[mastershipSource] = (if runLine s.pins s.ldr.side = true then .minor else .critical)
        ∧ t.alm.list = (((List.finRange 20).filter fun x => decide (x.val < 12 ∨ 16 ≤ x.val))
              ++ ((List.finRange 20).filter fun x => decide (12 ≤ x.val ∧ x.val < 16))).filterMap fun x : Source =>
            if t.alm.conds[x] = .none then none else some ⟨x, t.alm.conds[x], 0, false, .stopped⟩)
  ∧ (∀ (s : State) (lsa pct : Nat), lsa = (if s.regions.lsa.base = s.regions.lsa.limit then 0 else 16) →
      pct = 250 + lsa →
      pubCount s = pct + 384 + 128 + 1
      ∧ ((List.range 250).map fun i => (pubWord s i).target)
          = (((List.range 256).filter fun n => decide (n ∉ [0, 4, 8, 12, 24, 25])).map
              fun n => s.regions.ccp.base + 4 * n)
      ∧ (∀ i < 250, (pubWord s i).mask = 0b1111
          ∧ (∀ n, (pubWord s i).target = s.regions.ccp.base + 4 * n →
              (n = 26 → (pubWord s i).value
                  = s.zon.lastLive.getD (place 0 8 s.zon.liveBank.val ||| place 16 16 s.zon.liveGen.toNat))
              ∧ (n = 27 → (pubWord s i).value = BitVec.ofNat 32 s.ring.producer)
              ∧ (n = 28 → (pubWord s i).value = BitVec.ofNat 32 s.ring.consumer)
              ∧ (n ∉ [1, 2, 5, 6, 9, 10, 13, 14, 16, 17, 18, 19, 26, 27, 28, 29] → (pubWord s i).value = 0)))
      ∧ (∀ k : SlotIx, lsa = 16 →
          recordWords s (.ctlStatus (.slot k)) = [pubWord s (250 + 2 * k.val)]
          ∧ recordWords s (.ctlRefused (.slot k)) = [pubWord s (251 + 2 * k.val)])
      ∧ (∀ q : Port, recordWords s (.port q) = [pubWord s (pct + q.val)])
      ∧ (∀ n < 128, (pubWord s (pct + 384 + n)).target = s.regions.esa.base + 4 * n
          ∧ (pubWord s (pct + 384 + n)).mask = 0b1111
          ∧ (78 ≤ n → (pubWord s (pct + 384 + n)).value = 0))
      ∧ pubWord s (pct + 512) = ⟨descBase s.pins + 4, place 0 8 2 ||| place 8 8 s.ldr.clampCount, 0b1111⟩
      ∧ ∀ r : RecordId, (∀ k, r ≠ .ctlStatus (.slot k) ∧ r ≠ .ctlRefused (.slot k)) →
          ∀ x ∈ recordWords s r, ∃ i < pct + 512, pubWord s i = x)
  ∧ ∀ (s : State) (i : Nat),
      (i + 1 < pubCount s →
        (publishNext i s).ldr.pub = some (i + 1) ∧ (publishNext i s).tw.waiting = s.tw.waiting ++ [.publication]
        ∧ (publishNext i s).tw.queue = s.tw.queue ++ [⟨s.tw.nextId, (pubWord s i).target, (pubWord s i).value,
            (pubWord s i).mask, .normal, .publication⟩])
      ∧ (pubCount s ≤ i + 1 →
        (publishNext i s).ldr.pub = none ∧ (publishNext i s).tw.waiting = s.tw.waiting
        ∧ (publishNext i s).tw.queue = s.tw.queue ++ [⟨s.tw.nextId, (pubWord s i).target, (pubWord s i).value,
            (pubWord s i).mask, .normal, .publicationEnd⟩])

/-- DESIRED_ON for a port that is desired OFF: the port is desired ON at the written speed code; in a
present, capable slot it ends the event effective ON or in the held list (07 R105, R114), and, with settled
figures and no port held, it is admitted where its slot is not on thermal hold, a licence is at hand and its
draw with the margin fits (06 R99, 07 R112, R113). DESIRED_OFF for a
port that is desired ON: it is effective OFF, in no list, and in a present, capable slot has reason
NOT_REQUESTED (07 R115). With settled figures and no other port held, where the queue has room, the port's
status bytes are queued, URGENT for a port that goes OFF and else STATUS (07 R106), and the budget record as
STATUS (06 R102), both of the form of 12 sections 12.4 and 12.7. -/
def Obligations.DesiredChangesMovePorts : Prop :=
  (∀ (s : State) (d : Side) (q : Port) (w : WriteWord) (lock : Bool),
    activeSide s d → pctWordAt s q → (s.gov.ports[q]).desired = false →
    ∃ t, exec (.desiredOn d q w lock) s = .next t
      ∧ (t.gov.ports[q]).desired = true ∧ (t.gov.ports[q]).speed = w.value.extractLsb' 1 2
      ∧ (slotUp s.params s.gov (slotOf q) = true →
          (t.gov.ports[q]).effective = true ∨ q ∈ t.gov.held)
      ∧ (figuresSettled s → s.gov.held = [] → slotUp s.params s.gov (slotOf q) = true →
          s.gov.thermal.getLsbD (slotOf q).val = false →
          groupLicensed s.lic q = true ∨ s.lic.pool.length < s.lic.poolTotal →
          s.gov.committed + drawAt s.params q (w.value.extractLsb' 1 2) + s.params.margin ≤ s.gov.headroomDw →
          (t.gov.ports[q]).effective = true ∧ (t.gov.ports[q]).reason = .none ∧ t.gov.held = []
          ∧ t.gov.committed = s.gov.committed + drawAt s.params q (w.value.extractLsb' 1 2)
          ∧ (groupLicensed s.lic q = false → t.lic.pool = s.lic.pool ++ [q]))
      ∧ (figuresSettled s → s.gov.held = [] → slotUp s.params s.gov (slotOf q) = true →
          (s.gov.ports[q]).reason = .notRequested → imagesApart s → roomFor s 8 →
          recordQueued t .status (.port q) ∧ recordQueued t .status .budget)
      ∧ presented t d ⟨wordAt s.regions.pct.base q.val, lock, false,
          .write [⟨.plain (wordAt s.regions.pct.base q.val), w.value ||| 1#32,
            w.enables ||| 0b1101, some q⟩]⟩
      ∧ t.mem = s.mem)
  ∧ (∀ (s : State) (d : Side) (q : Port) (w : WriteWord) (lock : Bool),
    activeSide s d → pctWordAt s q → (s.gov.ports[q]).desired = true →
    slotUp s.params s.gov (slotOf q) = true →
    ∃ t, exec (.desiredOff d q w lock) s = .next t
      ∧ (t.gov.ports[q]).desired = false ∧ (t.gov.ports[q]).effective = false
      ∧ (t.gov.ports[q]).reason = .notRequested ∧ q ∉ t.gov.held
      ∧ (t.gov.ports[q]).speed = w.value.extractLsb' 1 2 ∧ t.mem = s.mem
      ∧ (figuresSettled s → (∀ x ∈ s.gov.held, x = q) → imagesApart s → roomFor s 8 →
          ((s.gov.ports[q]).effective = true → recordQueued t .urgent (.port q))
          ∧ ((s.gov.ports[q]).effective = false → recordQueued t .status (.port q))
          ∧ recordQueued t .status .budget))
  ∧ (∀ (s : State) (q : Port), recordWords s (.port q) =
      [⟨s.regions.pct.base + 4 * q.val,
        placeBit 16 (s.gov.ports[q]).effective ||| place 17 3 (s.gov.ports[q]).reason.code
          ||| place 20 2 (s.gov.ports[q]).source.code ||| placeBit 22 (s.gov.held.contains q), 0b1100⟩])
  ∧ [PortReason.none, .notRequested, .slotEmpty, .thermal, .unlicensed, .power, .shed].map PortReason.code
      = List.range 7
  ∧ [LicSource.none, .base, .group, .pool].map LicSource.code = List.range 4
  ∧ (∀ s : State, recordWords s .budget =
      (([s.gov.available, s.gov.fixedLoad, s.gov.fanLoad, s.gov.headroom, s.gov.committed, s.gov.heldPower,
          s.gov.heldShed].zipIdx 4).map fun x =>
        ⟨s.regions.esa.base + 4 * x.2, BitVec.ofNat 32 x.1, 0b1111⟩))
  ∧ ∀ (lo : Nat) (b : Bool), placeBit lo b = place lo 1 (if b = true then 1 else 0)

/-- SPEED_CHANGE of a port that is desired ON: an OFF port keeps the code; an ON port whose new draw fits
stays ON; one whose new draw does not fit goes OFF into the held list (06 R98, R99, 07 R116). -/
def Obligations.SpeedChangeIsTested : Prop :=
  ∀ (s : State) (d : Side) (q : Port) (code : BitVec 2) (tag : Byte) (lock : Bool),
    activeSide s d → pctWordAt s q → (s.gov.ports[q]).desired = true → (s.gov.ports[q]).speed ≠ code →
    ∃ t, exec (.speedChange d q code tag lock) s = .next t
      ∧ (t.gov.ports[q]).speed = code ∧ (t.gov.ports[q]).desired = true ∧ t.mem = s.mem
      ∧ (figuresSettled s → (s.gov.ports[q]).effective = true →
          (drawAt s.params q code = draw s q
            ∨ s.gov.committed - draw s q + drawAt s.params q code ≤ s.gov.headroomDw →
            (t.gov.ports[q]).effective = true)
          ∧ (drawAt s.params q code ≠ draw s q →
            s.gov.headroomDw < s.gov.committed - draw s q + drawAt s.params q code →
            (t.gov.ports[q]).effective = false ∧ q ∈ t.gov.held))

/-- SLOT_PRES changes in SUPERVISING: every port of a lost slot is OFF with reason SLOT_EMPTY and not
held; every desired port of a gained capable slot ends the event ON or held (07 R118, R119). -/
def Obligations.SlotLinesMovePorts : Prop :=
  ∀ (s : State) (k : SlotIx), running s →
    (s.pins.slotPres.getLsbD k.val = true →
      ∃ t, exec (.slotPresDeassert k) s = .next t
        ∧ t.pins.slotPres.getLsbD k.val = false ∧ t.gov.slotPresent.getLsbD k.val = false
        ∧ (∀ q : Port, slotOf q = k → (t.gov.ports[q]).effective = false
            ∧ (t.gov.ports[q]).reason = .slotEmpty ∧ q ∉ t.gov.held)
        ∧ t.mem = s.mem)
    ∧ (s.pins.slotPres.getLsbD k.val = false →
      ∃ t, exec (.slotPresAssert k) s = .next t
        ∧ t.pins.slotPres.getLsbD k.val = true ∧ t.gov.slotPresent.getLsbD k.val = true
        ∧ ((s.params.slots[k]).capable = true → ∀ q : Port, slotOf q = k →
            (s.gov.ports[q]).desired = true →
            (t.gov.ports[q]).effective = true ∨ q ∈ t.gov.held)
        ∧ t.mem = s.mem)

/-- The settle sheds, then walks the held list (07 R109): the ports, the held list, the committed draw and the pool
list after it are those of the walk after the shed, and it counts the ports held POWER, SHED and UNLICENSED for the
budget record, the licence summary and the BUDGET conditions. Shed (07 R110): the ports are taken lowest rank first,
in equal ranks the highest port first, one after another until the draw is within the headroom, each OFF with reason
SHED at the head of the held list. Walk (07 R112, R113): each held port in turn is THERMAL, UNLICENSED, POWER or
SHED, or admitted. Where the queue has room a victim's status bytes are queued URGENT, and those of a port that the
walk changes as STATUS (07 R106). A step that sheds asks for SHED with the number of victims and the headroom in
deciwatts, and a walk that admits ports which were SHED for RESTORED with their number and the committed draw (07
R111, R113, 12 section 12.8). A thermal hold set that is handed turns the ports of its joining slots OFF with
reason THERMAL (07 R120, R121). -/
def Obligations.SettleShedsThenAdmits : Prop :=
  (∀ p : Params, (∀ k : SlotIx, (p.slots[k]).shedRank ≤ 7) →
      (∀ q : Port, q ∈ shedOrder p)
      ∧ (shedOrder p).Pairwise fun a b => (p.slots[slotOf a]).shedRank < (p.slots[slotOf b]).shedRank
          ∨ ((p.slots[slotOf a]).shedRank = (p.slots[slotOf b]).shedRank ∧ b < a))
  ∧ (∀ s : State, (s.gov.committed ≤ s.gov.headroomDw → shed s = s)
      ∧ (s.gov.headroomDw < s.gov.committed →
        ∃ victims rest : List Port,
          (shedOrder s.params).filter (fun q => (s.gov.ports[q]).effective) = victims ++ rest
          ∧ (∀ q ∈ victims, ((shed s).gov.ports[q]).effective = false
              ∧ ((shed s).gov.ports[q]).reason = .shed)
          ∧ (∀ q : Port, q ∉ victims → (shed s).gov.ports[q] = s.gov.ports[q])
          ∧ (shed s).gov.held = victims.reverse ++ s.gov.held
          ∧ (shed s).gov.committed = s.gov.committed - (victims.map (draw s)).sum
          ∧ (rest ≠ [] → (shed s).gov.committed ≤ s.gov.headroomDw)
          ∧ (s.ldr.op = .supervising → victims ≠ [] → eventAsked s.ring (shed s) .shed
              (BitVec.ofNat 32 victims.length) (BitVec.ofNat 32 (10 * s.gov.headroom)))
          ∧ ∀ before q after, victims = before ++ q :: after →
              s.gov.headroomDw < s.gov.committed - (before.map (draw s)).sum))
  ∧ (∀ (s : State) (n : Nat), heldListLaw s →
      n = allPorts.countP (fun q => (s.gov.ports[q]).reason == .shed && s.gov.held.contains q
        && ((admissionWalk s).gov.ports[q]).effective) → n ≠ 0 →
      eventAsked s.ring (admissionWalk s) .restored (BitVec.ofNat 32 n)
        (BitVec.ofNat 32 (admissionWalk s).gov.committed))
  ∧ (∀ (s : State) (q : Port), roomFor s 1 → recordQueued (shedOne q s) .urgent (.port q))
  ∧ (∀ s t : State, t = settle s →
      t.gov.ports = (admissionWalk (shed s)).gov.ports ∧ t.gov.held = (admissionWalk (shed s)).gov.held
      ∧ t.gov.committed = (admissionWalk (shed s)).gov.committed
      ∧ t.lic.pool = (admissionWalk (shed s)).lic.pool
      ∧ t.gov.heldPower = t.gov.held.countP (fun q => (t.gov.ports[q]).reason == .power)
      ∧ t.gov.heldShed = t.gov.held.countP (fun q => (t.gov.ports[q]).reason == .shed)
      ∧ t.lic.summary = ⟨t.lic.poolTotal, t.lic.pool.length,
          t.gov.held.countP fun q => (t.gov.ports[q]).reason == .unlicensed⟩
      ∧ (t.alm.inPower = true ↔ t.gov.heldPower ≠ 0) ∧ (t.alm.inShed = true ↔ t.gov.heldShed ≠ 0))
  ∧ (∀ s : State, (admissionWalk s).gov = ((s.gov.held.foldl walkStep (s, 0)).1).gov
      ∧ (admissionWalk s).lic = ((s.gov.held.foldl walkStep (s, 0)).1).lic)
  ∧ (∀ (s : State) (n : Nat) (q : Port) (t : State), t = (walkStep (s, n) q).1 →
      (∀ x : Port, x ≠ q → t.gov.ports[x] = s.gov.ports[x])
      ∧ (t.gov.ports[q] ≠ s.gov.ports[q] → roomFor s 1 → recordQueued t .status (.port q))
      ∧ (s.gov.thermal.getLsbD (slotOf q).val = true →
        t.gov.ports[q] = { s.gov.ports[q] with reason := .thermal } ∧ t.gov.held = s.gov.held
        ∧ t.gov.committed = s.gov.committed ∧ t.lic = s.lic)
      ∧ (s.gov.thermal.getLsbD (slotOf q).val = false →
        (groupLicensed s.lic q = false → s.lic.poolTotal ≤ s.lic.pool.length →
          t.gov.ports[q] = { s.gov.ports[q] with reason := .unlicensed } ∧ t.gov.held = s.gov.held
          ∧ t.gov.committed = s.gov.committed ∧ t.lic = s.lic)
        ∧ (groupLicensed s.lic q = true ∨ s.lic.pool.length < s.lic.poolTotal →
          (s.gov.headroomDw < s.gov.committed + draw s q + s.params.margin →
            t.gov.ports[q] = { s.gov.ports[q] with
              reason := if (s.gov.ports[q]).reason = .shed then .shed else .power }
            ∧ t.gov.held = s.gov.held ∧ t.gov.committed = s.gov.committed ∧ t.lic = s.lic)
          ∧ (s.gov.committed + draw s q + s.params.margin ≤ s.gov.headroomDw →
            (t.gov.ports[q]).effective = true ∧ (t.gov.ports[q]).reason = .none
            ∧ t.gov.held = s.gov.held.erase q ∧ t.gov.committed = s.gov.committed + draw s q
            ∧ (groupLicensed s.lic q = true →
                t.lic = s.lic ∧ (t.gov.ports[q]).source = (s.gov.ports[q]).source)
            ∧ (groupLicensed s.lic q = false →
                t.lic.pool = s.lic.pool ++ [q] ∧ (t.gov.ports[q]).source = .pool)))))
  ∧ ∀ (s : State) (h : BitVec 8),
      (handHoldSet h s).gov.thermal = h
      ∧ ∀ q : Port, h.getLsbD (slotOf q).val = true → s.gov.thermal.getLsbD (slotOf q).val = false →
        (s.gov.ports[q]).effective = true →
        ((handHoldSet h s).gov.ports[q]).effective = false
        ∧ ((handHoldSet h s).gov.ports[q]).reason = .thermal ∧ q ∈ (handHoldSet h s).gov.held

/-! ### Mastership -/

/-- HEARTBEAT of a side whose RUN line is asserted restarts its timer and has eligibility derived afresh, so that the
standby becomes eligible; an expired timer is stopped: that of the standby takes away its eligibility (04 R60, R61),
that of the master passes mastership to an eligible standby, else to a pending claim, else to no side, and the timer
of the side that becomes active goes on, or starts where it was stopped (04 R60, R63, R64). Each change of master side
asks for MASTERSHIP (04 R64, 12 section 12.8). Where nothing waits, the zoning unit is handed the
change: a commit before its live word is suspended, a clone ends (08 R138, R143). Where the queue has room, the
mastership status word, of the form of 12 section 12.3, is queued as STATUS when a field of it changes
(04 R71). -/
def Obligations.HeartbeatTimersRunAndExpire : Prop :=
  (∀ s : State, recordWords s .mastership =
      [⟨s.regions.ccp.base + 116, place 0 8 (match s.mast.master with | none => 0 | some .a => 1 | some .b => 2)
          ||| placeBit 8 s.mast.eligible ||| place 16 16 s.mast.generation.toNat, 0b1111⟩])
  ∧ (∀ (s : State) (d : Side) (w : WriteWord) (lock : Bool), classifying s d → ccpWordAt s (heartbeatNo d) →
    ∃ t, exec (.heartbeat d w lock) s = .next t
      ∧ t.mast.timer d = (if runLine s.pins d = true then .running s.params.heartbeatTicks
          else s.mast.timer d)
      ∧ t.mast.timer d.other = s.mast.timer d.other ∧ t.mast.master = s.mast.master
      ∧ t.mast.generation = s.mast.generation
      ∧ (runLine s.pins d = false → t.mast = s.mast)
      ∧ (runLine s.pins d = true → eligibilityDerived s t
          ∧ (s.mast.master = some d.other → t.mast.eligible = true))
      ∧ presented t d (plainWrite (wordAt s.regions.ccp.base (heartbeatNo d)) w lock))
  ∧ [MastCause.expiry, .runLost, .release, .claim].map MastCause.code = [1, 2, 3, 4]
  ∧ ∀ (s : State) (d : Side), running s → s.mast.timer d = .expired →
    (s.mast.master ≠ some d →
      ∃ t, exec (.heartbeatExpiry d) s = .next t ∧ t.mast.timer d = .stopped
        ∧ t.mast.master = s.mast.master ∧ t.mast.generation = s.mast.generation
        ∧ t.mast.claim = s.mast.claim ∧ t.mast.timer d.other = s.mast.timer d.other
        ∧ t.mast.eligible = false ∧ eligibilityDerived s t
        ∧ (s.mast.eligible = true → imagesApart s → roomFor s 1 → recordQueued t .status .mastership))
    ∧ (s.mast.master = some d → s.mast.eligible = true →
      ∃ t, exec (.heartbeatExpiry d) s = .next t ∧ t.mast.timer d = .stopped
        ∧ t.mast.master = some d.other ∧ t.mast.generation = s.mast.generation + 1
        ∧ t.mast.timer d.other = activeTimer s d.other ∧ t.mast.eligible = false
        ∧ mastershipAsked s t (some d) (some d.other) .expiry (s.mast.generation + 1)
        ∧ (imagesApart s → roomFor s 1 → recordQueued t .status .mastership)
        ∧ (s.tw.waiting = [] → zoningHandedOver s t))
    ∧ (s.mast.master = some d → s.mast.eligible = false → s.mast.claim = none →
      ∃ t, exec (.heartbeatExpiry d) s = .next t ∧ t.mast.timer d = .stopped
        ∧ t.mast.master = none ∧ t.mast.generation = s.mast.generation + 1
        ∧ t.mast.timer d.other = s.mast.timer d.other ∧ t.mast.eligible = false
        ∧ mastershipAsked s t (some d) none .expiry (s.mast.generation + 1)
        ∧ (imagesApart s → roomFor s 1 → recordQueued t .status .mastership)
        ∧ (s.tw.waiting = [] → zoningHandedOver s t))
    ∧ (∀ g, s.mast.master = some d → s.mast.eligible = false → s.mast.claim = some ⟨d.other, g⟩ →
      ∃ t, exec (.heartbeatExpiry d) s = .next t ∧ t.mast.timer d = .stopped
        ∧ t.mast.master = some d.other ∧ t.mast.generation = s.mast.generation + 2
        ∧ t.mast.timer d.other = activeTimer s d.other ∧ t.mast.eligible = false
        ∧ mastershipAsked s t (some d) none .expiry (s.mast.generation + 1)
        ∧ mastershipAsked s t none (some d.other) .claim (s.mast.generation + 2)
        ∧ t.mast.claim = none ∧ answered t.ctl.mastership .done (s.mast.generation + 2)
        ∧ (imagesApart s → roomFor s 1 → recordQueued t .status .mastership)
        ∧ (s.tw.waiting = [] → zoningHandedOver s t))

/-- A RUN line that deasserts stops its side's timer: the master's mastership lapses, to an eligible standby, else to
a pending claim, else to no side (04 R63), and the zoning unit is handed the change where nothing waits (08 R138,
R143); a standby's claim is withdrawn; with no master side the timer stops and nothing else of mastership changes. One
that asserts changes no master side and no timer, and has eligibility derived afresh (04 R61, R62, R68). The timer of
the side that becomes active goes on, or starts where it was stopped (04 R64). In every operating state the
deassertion ends a lock sequence of that side: the lock count is 0, an access of it that is in progress goes on, and
an idle port serves the other side's waiting access, or stays with its owner (03 R49). That the access in progress
begins no new sequence is the model's choice (log 13). -/
def Obligations.RunLinesMoveMastership : Prop :=
  (∀ (s : State) (d : Side), s.pins.inReset = false → runLine s.pins d = true → s.port.lockCount ≠ 0 →
    s.port.owner = some (.ofSide d) →
    ∃ t, exec (.runDeassert d) s = .next t ∧ t.port.lockCount = 0
      ∧ (∀ a, s.port.current = some (.up d a) →
          t.port = { s.port with lockCount := 0, current := some (.up d { a with lock := false }) })
      ∧ (s.port.current = none → s.ldr.op = .transparent → nothingWaits s → requesting s .tw = false →
          s.port.wait d = none →
          (s.port.wait d.other = none → t.port = { s.port with lockCount := 0 })
          ∧ ∀ a, s.port.wait d.other = some a →
              s.port.mode = .fixed ∨ .ofSide d.other ∈ s.port.rotation →
              t.port.current = some (.up d.other a) ∧ t.port.owner = some (.ofSide d.other)
                ∧ t.port.parked = false ∧ t.port.wait d.other = none ∧ t.ring = s.ring))
  ∧ ∀ (s : State) (d : Side), running s →
    (runLine s.pins d = true →
      ∃ t, exec (.runDeassert d) s = .next t ∧ runLine t.pins d = false
        ∧ runLine t.pins d.other = runLine s.pins d.other
        ∧ (s.mast.master = some d → s.mast.eligible = true →
            t.mast.master = some d.other ∧ t.mast.generation = s.mast.generation + 1
            ∧ t.mast.timer d = .stopped ∧ t.mast.timer d.other = activeTimer s d.other
            ∧ t.mast.eligible = false
            ∧ mastershipAsked s t (some d) (some d.other) .runLost (s.mast.generation + 1))
        ∧ (s.mast.master = some d → s.mast.eligible = false → s.mast.claim = none →
            t.mast.master = none ∧ t.mast.generation = s.mast.generation + 1
            ∧ t.mast.timer d = .stopped ∧ t.mast.timer d.other = s.mast.timer d.other
            ∧ t.mast.eligible = false
            ∧ mastershipAsked s t (some d) none .runLost (s.mast.generation + 1))
        ∧ (∀ g, s.mast.master = some d → s.mast.eligible = false → s.mast.claim = some ⟨d.other, g⟩ →
            t.mast.master = some d.other ∧ t.mast.generation = s.mast.generation + 2
            ∧ t.mast.timer d = .stopped ∧ t.mast.claim = none
            ∧ t.mast.timer d.other = activeTimer s d.other ∧ t.mast.eligible = false
            ∧ mastershipAsked s t (some d) none .runLost (s.mast.generation + 1)
            ∧ mastershipAsked s t none (some d.other) .claim (s.mast.generation + 2)
            ∧ answered t.ctl.mastership .done (s.mast.generation + 2))
        ∧ (s.mast.master = some d → s.tw.waiting = [] → zoningHandedOver s t)
        ∧ (s.mast.master = some d.other →
            t.mast.master = some d.other ∧ t.mast.generation = s.mast.generation
            ∧ t.mast.timer d = .stopped ∧ t.mast.timer d.other = s.mast.timer d.other
            ∧ t.mast.eligible = false ∧ eligibilityDerived s t
            ∧ ∀ g, s.mast.claim = some ⟨d, g⟩ → t.mast.claim = none
                ∧ answered t.ctl.mastership .withdrawn s.mast.generation)
        ∧ (s.mast.master = none → t.mast = s.mast.setTimer d .stopped ∧ t.mast.timer d = .stopped
            ∧ t.mast.timer d.other = s.mast.timer d.other ∧ t.ctl.mastership = s.ctl.mastership
            ∧ (nothingWaits s → t.zon = s.zon))
        ∧ ((s.mast.master = some d ∨ s.mast.master = some d.other ∧ s.mast.eligible = true) →
            imagesApart s → roomFor s 1 → recordQueued t .status .mastership))
    ∧ (runLine s.pins d = false →
      ∃ t, exec (.runAssert d) s = .next t ∧ runLine t.pins d = true
        ∧ t.mast.master = s.mast.master ∧ t.mast.generation = s.mast.generation
        ∧ t.mast.timerA = s.mast.timerA ∧ t.mast.timerB = s.mast.timerB
        ∧ t.mast.claim = s.mast.claim ∧ eligibilityDerived s t)

/-- CLAIM, the part not closing: with no master it is granted at once, from the standby it becomes pending,
from the active side it is answered with the current generation (04 R65, R66, R67, R69). The timer of the side that
becomes active goes on, or starts where it was stopped, and MASTERSHIP is asked for (04 R64). RELEASE from the
active side with an eligible standby hands mastership over (04 R70), and the zoning unit the change where
nothing waits (08 R138, R143). Where the queue has room, a CLAIM that moves no mastership has its status word
queued as STATUS (01 R20, 04 R72), and a change of master side the mastership status word (04 R71). -/
def Obligations.ClaimAndReleaseAreDecided : Prop :=
  (∀ (s : State) (d : Side) (tag : BitVec 16) (lock : Bool),
      classifying s d → ccpWordAt s 0 → s.ldr.closing = none →
      (s.mast.master = none → runLine s.pins d = true →
        ∃ t, exec (.claim d tag lock) s = .next t ∧ t.mast.master = some d
          ∧ t.mast.generation = s.mast.generation + 1
          ∧ t.mast.timer d = activeTimer s d ∧ t.mast.timer d.other = s.mast.timer d.other
          ∧ eligibilityDerived s t ∧ mastershipAsked s t none (some d) .claim (s.mast.generation + 1)
          ∧ answered t.ctl.mastership .done (s.mast.generation + 1)
          ∧ (imagesApart s → roomFor s 1 → recordQueued t .status .mastership)
          ∧ presented t d (plainWrite s.regions.ccp.base (requestValue 1 0 tag) lock))
      ∧ (s.mast.master = some d.other → runLine s.pins d = true → s.ctl.mastership.state ≠ .running →
        ∃ t, exec (.claim d tag lock) s = .next t ∧ t.mast = { s.mast with claim := some ⟨d, tag⟩ }
          ∧ runningRecord t.ctl.mastership ∧ (roomFor s 1 → recordQueued t .status (.ctlStatus .mastership))
          ∧ presented t d (plainWrite s.regions.ccp.base (requestValue 1 0 tag) lock))
      ∧ (s.mast.master = some d → s.ctl.mastership.state ≠ .running →
        ∃ t, exec (.claim d tag lock) s = .next t ∧ t.mast = s.mast
          ∧ answered t.ctl.mastership .done s.mast.generation
          ∧ (roomFor s 1 → recordQueued t .status (.ctlStatus .mastership))
          ∧ presented t d (plainWrite s.regions.ccp.base (requestValue 1 0 tag) lock)))
  ∧ (∀ (s : State) (d : Side) (tag : BitVec 16) (lock : Bool),
      activeSide s d → ccpWordAt s 0 → s.ldr.closing = none → s.mast.eligible = true →
      ∃ t, exec (.release d tag lock) s = .next t
        ∧ t.mast.master = some d.other ∧ t.mast.generation = s.mast.generation + 1
        ∧ t.mast.timer d = .stopped ∧ t.mast.timer d.other = activeTimer s d.other
        ∧ t.mast.eligible = false ∧ t.mast.claim = none
        ∧ mastershipAsked s t (some d) (some d.other) .release (s.mast.generation + 1)
        ∧ answered t.ctl.mastership .done (s.mast.generation + 1)
        ∧ (imagesApart s → roomFor s 1 → recordQueued t .status .mastership)
        ∧ (s.tw.waiting = [] → zoningHandedOver s t)
        ∧ presented t d (plainWrite s.regions.ccp.base (requestValue 2 0 tag) lock))

/-- A request that its unit refuses, by a request command or by a full-word write of any value to the request
word: the tag and the reason go to the refused word, which is queued as STATUS where the queue has room, the
write completes upstream without a downstream access, and the record's status word and every unit stay (01 R20,
R21): the zoning unit and its status word where nothing waits, since the end of the event may take a waiting bank
write on. The status and refused words of every record are of the form of 12 section 12.3. -/
def Obligations.RefusedRequestIsReported : Prop :=
  (∀ (s : State) (c : CtlId) (a : Nat),
    a = (match c with
      | .mastership => s.regions.ccp.base
      | .zoning => s.regions.ccp.base + 16
      | .restart => s.regions.ccp.base + 32
      | .alarmAck => s.regions.ccp.base + 48
      | .slot k => s.regions.lsa.base + 32 * k.val) →
    ctlAddr s.regions c 0 = a
    ∧ recordWords s (.ctlStatus c) = [⟨a + 4, place 0 4 (ctlRec s.ctl c).state.code
        ||| place 4 4 (match c with | .slot k => (s.lic.slots[k]).state.code | _ => 0)
        ||| place 8 8 (ctlRec s.ctl c).outcome.code ||| place 16 16 (ctlRec s.ctl c).detail.toNat, 0b1111⟩]
    ∧ recordWords s (.ctlRefused c) = [⟨a + 8, place 0 8 (ctlRec s.ctl c).refusedReason.code
        ||| place 16 16 (ctlRec s.ctl c).refusedTag.toNat, 0b1111⟩])
  ∧ [RecState.idle, .running, .done].map RecState.code = List.range 3
  ∧ [SlotState.empty, .installing, .active, .expired, .rejected].map SlotState.code = List.range 5
  ∧ [Outcome.none, .done, .withdrawn, .abortedRestart, .abortedEdit, .abandoned, .abandonedMastership,
      .memoryError, .badCount, .overrun, .zoneOrder, .memberRange, .memberOrder, .memberCount, .tooManyMembers,
      .badField, .badCheck, .duplicate].map Outcome.code = List.range 18
  ∧ [RefuseReason.none, .notActive, .busy, .badCode, .suspended, .nothingSuspended, .noStandby, .slotOccupied,
      .slotEmpty, .notRaised].map RefuseReason.code = List.range 10
  ∧ ∀ (i : Instr) (s : State) (d : Side) (c : CtlId) (w : Word) (lock : Bool) (r : RefuseReason),
    requestOf i = some (d, c, w, lock)
      ∨ (∃ addr : BitVec 24, addr.toNat = ctlAddr s.regions c 0
          ∧ i = .upstreamWrite d addr (.single ⟨w, 0b1111⟩) lock) →
    classifying s d → requestWordAt s c →
    sideFilter s d (ctlAddr s.regions c 0) = none → refusal c d w s = some r →
    ∃ t, exec i s = .next t
      ∧ (ctlRec t.ctl c).refusedTag = w.extractLsb' 16 16 ∧ (ctlRec t.ctl c).refusedReason = r
      ∧ (roomFor s 1 → recordQueued t .status (.ctlRefused c))
      ∧ completedWrite t d ∧ t.mast = s.mast ∧ t.lic = s.lic ∧ t.gov = s.gov ∧ t.alm = s.alm
      ∧ t.ldr.op = s.ldr.op ∧ t.ldr.closing = s.ldr.closing ∧ t.drop = s.drop ∧ t.mem = s.mem
      ∧ t.fan = s.fan ∧ t.mdl = s.mdl ∧ t.time = s.time ∧ t.params = s.params ∧ t.regions = s.regions
      ∧ (nothingWaits s → t.zon = s.zon)
      ∧ (c ≠ .zoning ∨ nothingWaits s → (ctlRec t.ctl c).state = (ctlRec s.ctl c).state
          ∧ (ctlRec t.ctl c).outcome = (ctlRec s.ctl c).outcome
          ∧ (ctlRec t.ctl c).detail = (ctlRec s.ctl c).detail)

/-- How a request is decided, taken or refused and why: to the MASTERSHIP record (04 R65), the RESTART record
(02 R37), the ALARM_ACK record (11 R177) and a grant slot's record (05 R78), the earlier steps of 01 R20 first,
and to the ZONING record by the operation state (08 R128); and the first fault of an entry word and of a member
slot (08 R131). That MASTERSHIP refuses an unknown code BAD_CODE also while the part is closing is the model's
reading (log 14). -/
def Obligations.RequestAndEntryDecisions : Prop :=
  (∀ (s : State) (d : Side) (w : Word) (code : Nat), code = field w 0 8 →
      ((s.mast.master ≠ some d → code ≠ 1 → refusal .mastership d w s = some .notActive)
        ∧ (s.mast.master = some d → code ≠ 1 → code ≠ 2 → refusal .mastership d w s = some .badCode)
        ∧ (s.ldr.closing ≠ none → code = 1 ∨ code = 2 ∧ s.mast.master = some d →
            refusal .mastership d w s = some .busy)
        ∧ (s.ldr.closing = none →
          (code = 1 → s.mast.master ≠ some d → runLine s.pins d = false →
              refusal .mastership d w s = some .notActive)
          ∧ (code = 1 → s.mast.master = none → runLine s.pins d = true → refusal .mastership d w s = none)
          ∧ (code = 1 → s.mast.master = some d.other → runLine s.pins d = true →
              refusal .mastership d w s = if s.ctl.mastership.state = .running then some .busy else none)
          ∧ (code = 1 → s.mast.master = some d →
              refusal .mastership d w s = if s.ctl.mastership.state = .running then some .busy else none)
          ∧ (code = 2 → s.mast.master = some d →
              refusal .mastership d w s = if s.mast.eligible = true then none else some .noStandby)))
      ∧ ((code ≠ 1 → refusal .restart d w s = some .badCode)
        ∧ (code = 1 → s.ldr.closing ≠ none ∨ s.ctl.restart.state = .running →
            refusal .restart d w s = some .busy)
        ∧ (code = 1 → s.ldr.closing = none → s.ctl.restart.state ≠ .running → refusal .restart d w s = none))
      ∧ ((code ≠ 1 → refusal .alarmAck d w s = some .badCode)
        ∧ (code = 1 → s.ldr.closing ≠ none ∨ s.ctl.alarmAck.state = .running →
            refusal .alarmAck d w s = some .busy)
        ∧ (code = 1 → s.ldr.closing = none → s.ctl.alarmAck.state ≠ .running →
          (field w 8 8 = 255 → refusal .alarmAck d w s = none)
          ∧ (∀ e ∈ s.alm.list, e.source.val = field w 8 8 → refusal .alarmAck d w s = none)
          ∧ (field w 8 8 ≠ 255 → (∀ e ∈ s.alm.list, e.source.val ≠ field w 8 8) →
              refusal .alarmAck d w s = some .notRaised)
          ∧ (20 ≤ field w 8 8 → field w 8 8 ≤ 254 → refusal .alarmAck d w s = some .notRaised)))
      ∧ (∀ k : SlotIx, (code ≠ 1 → code ≠ 2 → refusal (.slot k) d w s = some .badCode)
        ∧ (code = 1 ∨ code = 2 → s.ldr.closing ≠ none ∨ (s.ctl.slots[k]).state = .running
            ∨ (s.lic.slots[k]).state = .installing → refusal (.slot k) d w s = some .busy)
        ∧ (s.ldr.closing = none → (s.ctl.slots[k]).state ≠ .running → (s.lic.slots[k]).state ≠ .installing →
          (code = 1 → refusal (.slot k) d w s =
            if (s.lic.slots[k]).state = .active ∨ (s.lic.slots[k]).state = .expired then some .slotOccupied
            else none)
          ∧ (code = 2 → refusal (.slot k) d w s =
            if (s.lic.slots[k]).state = .empty then some .slotEmpty else none)))
      ∧ refusal .zoning d w s = zoningRefusal code s)
  ∧
  (∀ (s : State) (code : Nat),
      (code = 0 ∨ 5 ≤ code → zoningRefusal code s = some .badCode)
      ∧ (1 ≤ code → code ≤ 4 → s.ldr.closing ≠ none → zoningRefusal code s = some .busy)
      ∧ (s.ldr.closing = none →
        (s.zon.op = .idle → (code = 1 ∨ code = 2 → zoningRefusal code s = none)
          ∧ (code = 3 ∨ code = 4 → zoningRefusal code s = some .nothingSuspended))
        ∧ (s.zon.op = .suspended → (code = 1 ∨ code = 2 → zoningRefusal code s = some .suspended)
          ∧ (code = 3 ∨ code = 4 → zoningRefusal code s = none))
        ∧ (s.zon.op = .validating ∨ s.zon.op = .marking ∨ s.zon.op = .flipping ∨ s.zon.op = .cloning →
            1 ≤ code → code ≤ 4 → zoningRefusal code s = some .busy)))
  ∧ ((∀ (s : State) (z c : Nat),
      (z ≤ s.zon.prevId ∨ z = 65535 → entryFault s z c = some .zoneOrder)
      ∧ (s.zon.prevId < z → z ≠ 65535 →
        (64 < c → entryFault s z c = some .memberCount)
        ∧ (c ≤ 64 →
          (bankWords s ≤ s.zon.pos + (c + 1) / 2 → entryFault s z c = some .overrun)
          ∧ (s.zon.pos + (c + 1) / 2 < bankWords s →
            (s.params.memberLimit < s.zon.total + c → entryFault s z c = some .tooManyMembers)
            ∧ (s.zon.total + c ≤ s.params.memberLimit → entryFault s z c = none)))))
    ∧ ∀ (last : Option Nat) (port : Nat),
      (384 ≤ port → slotFault last port = some .memberRange)
      ∧ (port < 384 → (last = none → slotFault last port = none)
        ∧ ∀ l, last = some l → (port ≤ l → slotFault last port = some .memberOrder)
          ∧ (l < port → slotFault last port = none)))

/-! ### Zone banks -/

/-- A write through the edit window, row by row of 01 R13: passed to the staging bank in IDLE, dropped in SUSPENDED,
and dropped for a header word in any other row, the operation going on; to another word it passes and ends a commit
that is VALIDATING, MARKING or FLIPPING before its live word is queued, or a clone, with ABORTED_EDIT, the bank header
INVALID with the written offset and COMMIT_FAILED or CLONE_FAILED (08 R137, R143). Once the live word is queued it is
held; when the live word is performed it is classified afresh, against IDLE, the new staging bank and the master side
of that moment, with BYPASS asserted too (01 R4, R5, R12, R13, 08 R136, R137). -/
def Obligations.WindowWriteIsDecided : Prop :=
  (∀ (s : State) (d : Side) (offset : BitVec 16) (w : WriteWord) (lock : Bool),
    activeSide s d → wordIn s .zew (s.regions.zew.base + offset.toNat) →
    (s.zon.op = .idle → offset.toNat / 4 = 0 ∨ 6 ≤ offset.toNat / 4 →
      ∃ t, exec (.zewWrite d offset (.single w) lock) s = .next t
        ∧ presented t d ⟨s.regions.zew.base + offset.toNat, lock, false,
            .write [⟨.window offset.toNat s.regions.zb0.base s.regions.zb1.base, w.value, w.enables,
              none⟩]⟩)
    ∧ (s.zon.op ≠ .suspended → ¬(s.zon.op = .flipping ∧ s.zon.liveQueued = true) →
        1 ≤ offset.toNat / 4 → offset.toNat / 4 ≤ 5 →
      ∃ t, exec (.zewWrite d offset (.single w) lock) s = .next t ∧ completedWrite t d
        ∧ t.drop = dropEntered s.drop (s.regions.zew.base + offset.toNat) d .partOwned
        ∧ (nothingWaits s → t.zon = s.zon))
    ∧ (s.zon.op = .suspended →
      ∃ t, exec (.zewWrite d offset (.single w) lock) s = .next t ∧ completedWrite t d
        ∧ t.drop = dropEntered s.drop (s.regions.zew.base + offset.toNat) d .stagingSuspended)
    ∧ (s.zon.op = .validating ∨ s.zon.op = .marking ∨ s.zon.op = .flipping ∧ s.zon.liveQueued = false
        ∨ s.zon.op = .cloning → offset.toNat / 4 = 0 ∨ 6 ≤ offset.toNat / 4 →
      ∃ t, exec (.zewWrite d offset (.single w) lock) s = .next t
        ∧ operationFailed s t .abortedEdit (offset.toNat / 4)
        ∧ presented t d ⟨s.regions.zew.base + offset.toNat, lock, false,
            .write [⟨.window offset.toNat s.regions.zb0.base s.regions.zb1.base, w.value, w.enables,
              none⟩]⟩)
    ∧ (s.zon.op = .flipping → s.zon.liveQueued = true →
      ∃ t, exec (.zewWrite d offset (.single w) lock) s = .next t
        ∧ (t.bus.get d).held = some ⟨s.regions.zew.base + offset.toNat, .single w, lock⟩
        ∧ t.port.wait d = none ∧ t.mem = s.mem))
  ∧ ∀ (s : State) (e : Entry) (d : Side) (offset : BitVec 16) (w : WriteWord) (lock : Bool),
    writing s e → e.origin = .liveWord → s.zon.liveQueued = true → s.ldr.closing = none → running s →
    (s.bus.get d.other).held = none → s.port.wait d = none →
    (s.bus.get d).held = some ⟨s.regions.zew.base + offset.toNat, .single w, lock⟩ →
    wordIn s .zew (s.regions.zew.base + offset.toNat) →
    ∃ t, exec .flipComplete s = .next t ∧ (t.bus.get d).held = none ∧ t.zon.op = .idle
      ∧ t.zon.liveBank = otherBank s.zon.liveBank
      ∧ (s.mast.master = some d → offset.toNat / 4 = 0 ∨ 6 ≤ offset.toNat / 4 →
          presented t d ⟨s.regions.zew.base + offset.toNat, lock, false,
            .write [⟨.window offset.toNat s.regions.zb0.base s.regions.zb1.base, w.value, w.enables,
              none⟩]⟩)
      ∧ ∀ r : DropReason,
        (s.mast.master = some d ∧ 1 ≤ offset.toNat / 4 ∧ offset.toNat / 4 ≤ 5 ∧ r = .partOwned)
          ∨ (s.mast.master = some d.other ∧ r = .standby) ∨ (s.mast.master = none ∧ r = .noMaster) →
        completedWrite t d ∧ t.drop = dropEntered s.drop (s.regions.zew.base + offset.toNat) d r

/-- COMMIT and CLONE in IDLE, the part not closing: the operation starts, its record is RUNNING, and, where the queue
has room, the status word (01 R20) and the zoning record, of the form of 12 section 12.7, are queued as STATUS entries
(08 R127). With no bank or live-word write of an earlier operation queued or waiting, the first read, of staging
header word 0 or of live header word 5, is issued in the same event, or joins the read waiting list; with one queued
it is not asked for yet (08 R129, R130, R141, 03 R57). OPERATION_FIRST_READ: when the last bank write of an earlier
operation is performed, the new operation's first read is issued (08 R129). That the entries it waits for are the
earlier operation's bank and live-word writes alone, not queued STATUS entries of the unit, is the model's choice (log
17). -/
def Obligations.ZoningOperationsStart : Prop :=
  (∀ s : State, recordWords s .zoning =
      [⟨s.regions.esa.base + 56, place 0 8 s.zon.op.code
          ||| place 8 8 (match s.zon.susp with | none => 0 | some z => z.code)
          ||| place 16 8 s.zon.liveBank.val, 0b1111⟩,
       ⟨s.regions.esa.base + 60, place 0 16 s.zon.liveGen.toNat ||| place 16 16 s.zon.entryIx, 0b1111⟩])
  ∧ [ZonState.idle, .validating, .marking, .flipping, .suspended, .cloning].map ZonState.code = List.range 6
  ∧ (∀ (s : State) (d : Side) (tag : BitVec 16) (lock : Bool),
      activeSide s d → ccpWordAt s 4 → s.ldr.closing = none → s.zon.op = .idle →
      (∃ t, exec (.commit d tag lock) s = .next t ∧ t.zon.op = .validating ∧ t.zon.pos = 0
        ∧ t.zon.total = 0 ∧ t.zon.used = 0 ∧ t.zon.masked = 0 ∧ t.zon.empty = 0
        ∧ t.zon.digest = 0xFFFFFFFF#32 ∧ runningRecord t.ctl.zoning
        ∧ (imagesApart s → roomFor s 3 →
            recordQueued t .status (.ctlStatus .zoning) ∧ recordQueued t .status .zoning)
        ∧ presented t d (plainWrite (wordAt s.regions.ccp.base 4) (requestValue 1 0 tag) lock))
      ∧ ∃ t, exec (.clone d tag lock) s = .next t ∧ t.zon.op = .cloning ∧ runningRecord t.ctl.zoning
        ∧ (imagesApart s → roomFor s 3 →
            recordQueued t .status (.ctlStatus .zoning) ∧ recordQueued t .status .zoning)
        ∧ presented t d (plainWrite (wordAt s.regions.ccp.base 4) (requestValue 2 0 tag) lock))
  ∧ (∀ (s : State) (d : Side) (tag : BitVec 16) (lock : Bool) (c : Instr) (first : Nat),
      activeSide s d → ccpWordAt s 4 → s.ldr.closing = none → s.zon.op = .idle → s.tw.waiting = [] →
      (c = .commit d tag lock ∧ first = stagingBase s)
        ∨ (c = .clone d tag lock ∧ first = bankBase s.regions s.zon.liveBank + 20) →
      ∃ t, exec c s = .next t
        ∧ ((∀ e ∈ s.tw.queue, ¬(e.cls = .normal ∧ (e.origin = .zoning ∨ e.origin = .liveWord))) →
          t.zon.firstReadDue = false
          ∧ (s.tw.read = none → s.tw.readList = [] → t.tw.read = some ⟨first, some .zoning⟩ ∧ t.tw.readList = [])
          ∧ (s.tw.read ≠ none ∨ s.tw.readList ≠ [] → t.tw.read = s.tw.read
              ∧ t.tw.readList = s.tw.readList ++ [⟨.zoning, first⟩]))
        ∧ ((∃ e ∈ s.tw.queue, e.cls = .normal ∧ (e.origin = .zoning ∨ e.origin = .liveWord)) → imagesApart s →
          (∀ e ∈ s.tw.queue, ∀ r, e.target ∉ recordTargets s r) →
          t.zon.firstReadDue = true ∧ t.tw.read = s.tw.read ∧ t.tw.readList = s.tw.readList))
  ∧ (∀ s : State, stagingBase s = (if s.zon.liveBank = 0 then s.regions.zb1.base else s.regions.zb0.base)
      ∧ bankBase s.regions s.zon.liveBank
        = if s.zon.liveBank = 0 then s.regions.zb0.base else s.regions.zb1.base)
  ∧ (∀ (s : State) (e : Entry), writing s e → e.isBankWrite = true → s.ldr.closing = none →
      s.zon.liveQueued = false → s.zon.firstReadDue = true →
      (s.zon.op = .validating ∨ s.zon.op = .cloning) →
      (∀ x ∈ s.tw.queue, x.id = e.id ∨ x.isBankWrite = false) →
      s.tw.waiting = [] → s.tw.read = none → s.tw.readList = [] →
      ∃ t, exec .operationFirstRead s = .next t ∧ t.zon.firstReadDue = false ∧ t.zon.op = s.zon.op
        ∧ t.tw.read = some ⟨zonReadTarget s, some .zoning⟩
        ∧ t.mem = Mem.writeWord e.target e.value e.mask s.mem)

/-- RESUME takes a suspended commit back to its stage with its record RUNNING, where nothing of it is
half queued and a marking commit has its snapshot; a snapshot it has is kept. A marking commit whose validation
ended in the suspension takes the licence snapshot of that moment, begins the marking pass afresh and asks for
its first word; over no entries, where the queue has room, it goes on to FLIPPING in the same event (08 R133,
R134, R139). ABANDON ends it, the bank header INVALID with index 0, and COMMIT_FAILED is asked for (08 R140). -/
def Obligations.ResumeContinuesAbandonEnds : Prop :=
  ∀ (s : State) (d : Side) (tag : BitVec 16) (lock : Bool),
    activeSide s d → ccpWordAt s 4 → s.ldr.closing = none → s.zon.op = .suspended →
    (∀ stage : ZonState, s.zon.susp = some stage → stage ≠ .suspended → s.zon.after = .nothing →
      (stage = .marking → s.zon.snapshot ≠ none) →
      ∃ t, exec (.resume d tag lock) s = .next t ∧ t.zon.op = stage ∧ t.zon.susp = none
        ∧ runningRecord t.ctl.zoning
        ∧ (stage = .marking → s.tw.waiting = [] → t.zon.snapshot = s.zon.snapshot))
    ∧ (s.zon.susp = some .marking → s.zon.snapshot = none → s.tw.waiting = [] →
      (s.zon.count ≠ 0 → 6 < bankWords s →
        ∃ t, exec (.resume d tag lock) s = .next t ∧ t.zon.op = .marking ∧ t.zon.susp = none
          ∧ runningRecord t.ctl.zoning ∧ t.zon.snapshot = some (licenceSnapshot s.lic)
          ∧ t.zon.total = 0 ∧ t.zon.used = 0 ∧ t.zon.masked = 0 ∧ t.zon.empty = 0
          ∧ t.zon.digest = 0xFFFFFFFF#32 ∧ t.zon.pos = 6 ∧ t.zon.entryIx = 0 ∧ t.zon.prevId = 0
          ∧ t.zon.cur = none ∧ t.lic = s.lic
          ∧ (s.tw.read = none → s.tw.readList = [] →
              t.tw.read = some ⟨wordAt (stagingBase s) 6, some .zoning⟩))
      ∧ (s.zon.count = 0 → roomFor s 9 →
        ∃ t, exec (.resume d tag lock) s = .next t ∧ flipQueued s t ∧ t.zon.susp = none
          ∧ t.zon.snapshot = some (licenceSnapshot s.lic) ∧ runningRecord t.ctl.zoning
          ∧ flipEntries s 0 0 6 <:+: queueView t))
    ∧ ∃ t, exec (.abandon d tag lock) s = .next t ∧ operationFailed s t .abandoned 0

/-- COMMIT_READ_DATA: a check error and a faulty word end the commit with their outcome, the bank header INVALID with
the offset, the entry count or the entry index, and COMMIT_FAILED (08 R132, R142); a sound entry
word with members counts; a sound member word joins the entry buffer, marked in the marking pass; the entry
count above the limit is BAD_COUNT (08 R130 to R133, R142). The last sound word of the validating pass begins
the marking pass, with the licence snapshot of that moment (05 R92), or, in a suspension, leaves its stage
MARKING, and in SUPERVISING no read follows; a pass over no entries goes on to FLIPPING in the same event (08 R130,
R133, R134). That the zoning record is queued before the flip's words is the model's choice (log 36). -/
def Obligations.CommitDataIsJudged : Prop :=
  (∀ (l : Licence) (q : Port), (licenceSnapshot l).getLsbD q.val = true ↔
      (groupLicensed l q = true ∨ q ∈ l.pool))
  ∧ ∀ (s : State) (w : Word), reading s (some .zoning) w → s.zon.stage ≠ .cloning →
    (∃ t, exec (.commitReadData true) s = .next t ∧ operationFailed s t .memoryError s.zon.pos)
    ∧ (s.zon.cur = none → s.zon.pos = 0 → s.params.zoneLimit < field w 0 16 →
      ∃ t, exec (.commitReadData false) s = .next t ∧ operationFailed s t .badCount (field w 0 16))
    ∧ (∀ o, s.zon.cur = none → s.zon.pos ≠ 0 → entryFault s (field w 0 16) (field w 16 7) = some o →
      ∃ t, exec (.commitReadData false) s = .next t ∧ operationFailed s t o s.zon.entryIx)
    ∧ (∀ e o, s.zon.cur = some e → e.fault w = some o →
      ∃ t, exec (.commitReadData false) s = .next t ∧ operationFailed s t o s.zon.entryIx)
    ∧ (s.zon.cur = none → s.zon.pos ≠ 0 → s.zon.after = .nothing →
      entryFault s (field w 0 16) (field w 16 7) = none → 1 ≤ field w 16 7 →
      ∃ t, exec (.commitReadData false) s = .next t ∧ t.zon.op = s.zon.op
        ∧ t.zon.total = s.zon.total + field w 16 7
        ∧ t.zon.used = s.zon.used + 1 + (field w 16 7 + 1) / 2
        ∧ t.zon.pos = s.zon.pos + 1 ∧ t.zon.prevId = field w 0 16)
    ∧ (∀ e : ZonEntry, s.zon.cur = some e → e.fault w = none → s.zon.after = .nothing →
      e.members.length + 1 < (e.count + 1) / 2 →
      ∃ t, exec (.commitReadData false) s = .next t ∧ t.zon.op = s.zon.op
        ∧ t.zon.pos = s.zon.pos + 1 ∧ t.zon.entryIx = s.zon.entryIx
        ∧ t.zon.cur = some { e with
            members := e.members ++ [match s.zon.stage, s.zon.snapshot with
              | .marking, some snap => (markWord snap true w).1
              | _, _ => w]
            masked := e.masked + match s.zon.stage, s.zon.snapshot with
              | .marking, some snap => (markWord snap true w).2
              | _, _ => 0
            lastMember := some (field w 16 9) })
    ∧ (∀ e : ZonEntry, s.zon.cur = some e → e.fault w = none → s.zon.after = .nothing →
      e.members.length + 1 = (e.count + 1) / 2 → s.zon.op = .validating → s.zon.entryIx + 1 ≠ s.zon.count →
      s.zon.pos + 1 < bankWords s →
      ∃ t, exec (.commitReadData false) s = .next t ∧ t.zon.op = .validating ∧ t.zon.cur = none
        ∧ t.zon.pos = s.zon.pos + 1 ∧ t.zon.entryIx = s.zon.entryIx + 1 ∧ t.mem = s.mem)
    ∧ (s.zon.cur = none → s.zon.pos ≠ 0 → s.zon.after = .nothing →
      entryFault s (field w 0 16) (field w 16 7) = none → field w 16 7 = 0 → s.zon.op = .validating →
      s.zon.entryIx + 1 ≠ s.zon.count → s.zon.pos + 1 < bankWords s →
      ∃ t, exec (.commitReadData false) s = .next t ∧ t.zon.op = .validating ∧ t.zon.cur = none
        ∧ t.zon.total = s.zon.total ∧ t.zon.used = s.zon.used + 1 ∧ t.zon.prevId = field w 0 16
        ∧ t.zon.pos = s.zon.pos + 1 ∧ t.zon.entryIx = s.zon.entryIx + 1 ∧ t.mem = s.mem)
    ∧ (((∃ e : ZonEntry, s.zon.cur = some e ∧ e.fault w = none ∧ e.members.length + 1 = (e.count + 1) / 2)
        ∨ (s.zon.cur = none ∧ s.zon.pos ≠ 0 ∧ field w 16 7 = 0
          ∧ entryFault s (field w 0 16) (field w 16 7) = none)) →
      s.zon.entryIx + 1 = s.zon.count → 6 < bankWords s → nothingWaits s → s.tw.readList = [] →
      (s.zon.op = .validating →
        ∃ t, exec (.commitReadData false) s = .next t ∧ t.zon.op = .marking ∧ t.zon.cur = none
          ∧ t.zon.snapshot = some (licenceSnapshot s.lic) ∧ t.zon.total = 0 ∧ t.zon.used = 0
          ∧ t.zon.masked = 0 ∧ t.zon.empty = 0 ∧ t.zon.digest = 0xFFFFFFFF#32 ∧ t.zon.pos = 6
          ∧ t.zon.entryIx = 0 ∧ t.zon.prevId = 0
          ∧ t.tw.read = some ⟨wordAt (stagingBase s) 6, some .zoning⟩ ∧ t.mem = s.mem)
      ∧ (s.zon.op = .suspended → s.zon.susp = some .validating →
        ∃ t, exec (.commitReadData false) s = .next t ∧ t.zon.op = .suspended
          ∧ t.zon.susp = some .marking ∧ t.zon.snapshot = s.zon.snapshot
          ∧ (s.ldr.op = .supervising → t.tw.read = none)))
    ∧ (s.zon.cur = none → s.zon.pos = 0 → s.zon.op = .validating → field w 0 16 = 0 →
      s.zon.writes = [] → s.zon.withheld = none → s.tw.waiting = [] → s.tw.queue.length ≤ 8 →
      ∃ t, exec (.commitReadData false) s = .next t ∧ flipQueued s t
        ∧ t.zon.snapshot = some (licenceSnapshot s.lic)
        ∧ flipEntries s 0 0 6 <:+ queueView t ∧ t.mem = s.mem)

/-- The marking pass: a slot's masked flag is set unless the snapshot holds its port (08 R133); when an entry's
last member word has come and the queue has room, its words are queued for writing back, and digest, masked
members and empty zones take it in (08 R134); so it is at once for an entry without members. With the last
entry written back the commit is FLIPPING, or, in a suspension, its stage is (08 R134), and in SUPERVISING no read
follows. FLIPPING queues its six words where the queue has room, and the live generation goes on
to the next that is not 0 (08 R135). -/
def Obligations.MarkingWritesBackAndFlips : Prop :=
  (∀ (snap : BitVec 384) (second : Bool) (w : Word),
      ((markWord snap second w).1.getLsbD 15 = !snap.getLsbD (field w 0 9))
      ∧ ((markWord snap second w).1.getLsbD 31 =
          if second = true then !snap.getLsbD (field w 16 9) else w.getLsbD 31)
      ∧ (∀ i, i ≠ 15 → i ≠ 31 → (markWord snap second w).1.getLsbD i = w.getLsbD i)
      ∧ (markWord snap second w).2 = (if snap.getLsbD (field w 0 9) = true then 0 else 1)
          + (if second = true ∧ snap.getLsbD (field w 16 9) = false then 1 else 0))
  ∧ (∀ (w : Word) (n : Nat), n < 128 → field (withMaskedCount w n) 24 7 = n
      ∧ (withMaskedCount w n).getLsbD 31 = w.getLsbD 31
      ∧ field (withMaskedCount w n) 0 24 = field w 0 24)
  ∧ (∀ (s : State) (w : Word) (e e' : ZonEntry) (snap : BitVec 384) (ws : List Word),
      reading s (some .zoning) w → s.zon.op = .marking → s.zon.snapshot = some snap →
      s.zon.cur = some e → e.fault w = none → e.members.length + 1 = (e.count + 1) / 2 →
      e' = e.take (some snap) w → ws = withMaskedCount e.word e'.masked :: e'.members →
      s.zon.writes = [] → s.zon.withheld = none → s.tw.waiting = [] →
      s.tw.queue.length + ws.length ≤ 16 → s.zon.entryIx + 1 ≠ s.zon.count →
      s.zon.pos + 1 < bankWords s → ws.length ≤ s.zon.pos + 1 →
      e'.members = e.members ++ [(markWord snap e.secondUsed w).1]
      ∧ e'.masked = e.masked + (markWord snap e.secondUsed w).2
      ∧ ∃ t, exec (.commitReadData false) s = .next t
        ∧ t.zon.op = .marking ∧ t.zon.cur = none ∧ t.zon.entryIx = s.zon.entryIx + 1
        ∧ t.zon.pos = s.zon.pos + 1 ∧ t.zon.digest = ws.foldl crc32Word s.zon.digest
        ∧ t.zon.masked = s.zon.masked + e'.masked
        ∧ t.zon.empty = (if e'.masked = e.count then s.zon.empty + 1 else s.zon.empty)
        ∧ (∀ x ∈ ws.zipIdx,
            queuedValue t (wordAt (stagingBase s) (s.zon.pos + 1 - ws.length + x.2)) x.1)
        ∧ t.mem = s.mem)
  ∧ (∀ (s : State) (w : Word) (snap : BitVec 384),
      reading s (some .zoning) w → s.zon.op = .marking → s.zon.snapshot = some snap →
      s.zon.cur = none → s.zon.pos ≠ 0 → field w 16 7 = 0 →
      entryFault s (field w 0 16) (field w 16 7) = none →
      s.zon.writes = [] → s.zon.withheld = none → s.tw.waiting = [] → s.tw.queue.length < 16 →
      s.zon.entryIx + 1 ≠ s.zon.count → s.zon.pos + 1 < bankWords s →
      ∃ t, exec (.commitReadData false) s = .next t
        ∧ t.zon.op = .marking ∧ t.zon.cur = none ∧ t.zon.entryIx = s.zon.entryIx + 1
        ∧ t.zon.pos = s.zon.pos + 1 ∧ t.zon.digest = crc32Word s.zon.digest (withMaskedCount w 0)
        ∧ t.zon.masked = s.zon.masked ∧ t.zon.empty = s.zon.empty + 1
        ∧ t.zon.used = s.zon.used + 1
        ∧ queueView t = queueView s ++ [stagingEntry s s.zon.pos (withMaskedCount w 0)] ∧ t.mem = s.mem)
  ∧ (∀ (s : State) (w : Word) (e e' : ZonEntry) (snap : BitVec 384) (ws : List Word),
      reading s (some .zoning) w → s.zon.stage = .marking → s.zon.snapshot = some snap →
      s.zon.cur = some e → e.fault w = none → e.members.length + 1 = (e.count + 1) / 2 →
      e' = e.take (some snap) w → ws = withMaskedCount e.word e'.masked :: e'.members →
      s.zon.writes = [] → s.zon.withheld = none → nothingWaits s → s.tw.readList = [] →
      s.tw.queue.length + ws.length ≤ 8 → s.zon.entryIx + 1 = s.zon.count → ws.length ≤ s.zon.pos + 1 →
      (∀ x ∈ ws.zipIdx,
        wordAt (stagingBase s) (s.zon.pos + 1 - ws.length + x.2) ∉ recordTargets s .zoning) →
      ∃ t, exec (.commitReadData false) s = .next t
        ∧ t.zon.masked = s.zon.masked + e'.masked ∧ t.zon.digest = ws.foldl crc32Word s.zon.digest
        ∧ t.zon.empty = (if e'.masked = e.count then s.zon.empty + 1 else s.zon.empty)
        ∧ t.zon.cur = none ∧ t.zon.snapshot = some snap
        ∧ (s.ldr.op = .supervising → t.tw.read = none) ∧ t.mem = s.mem
        ∧ (s.zon.op = .marking → flipQueued s t
          ∧ (ws.zipIdx.map (fun x => stagingEntry s (s.zon.pos + 1 - ws.length + x.2) x.1)
              ++ flipEntries s (~~~ws.foldl crc32Word s.zon.digest) s.zon.total
                (6 + s.zon.used)).Sublist (queueView t))
        ∧ (s.zon.op = .suspended → t.zon.op = .suspended ∧ t.zon.susp = some .flipping
          ∧ (ws.zipIdx.map fun x =>
              stagingEntry s (s.zon.pos + 1 - ws.length + x.2) x.1).Sublist (queueView t)))
  ∧ (∀ g : BitVec 16, nextGen g = if g = 65535 then 1 else g + 1)
  ∧ ∀ s : State, s.tw.waiting = [] → s.tw.queue.length ≤ 10 →
      (enterFlip s).zon.flipGen = some (nextGen s.zon.liveGen)
      ∧ (enterFlip s).zon.liveQueued = true ∧ (enterFlip s).zon.op = s.zon.op
      ∧ (enterFlip s).tw.waiting = []
      ∧ (enterFlip s).tw.queue.map (fun e => (e.target, e.value, e.mask, e.cls)) =
        s.tw.queue.map (fun e => (e.target, e.value, e.mask, e.cls)) ++
        [(stagingBase s + 8, (nextGen s.zon.liveGen).setWidth 32, 0b1111, .normal),
         (stagingBase s + 12, ~~~s.zon.digest, 0b1111, .normal),
         (stagingBase s + 16, BitVec.ofNat 32 s.zon.total, 0b1111, .normal),
         (stagingBase s + 20, BitVec.ofNat 32 (6 + s.zon.used), 0b1111, .normal),
         (stagingBase s + 4, headerWord .valid .none 0, 0b1111, .normal),
         (s.regions.ccp.base + 104, liveWord (otherBank s.zon.liveBank) (nextGen s.zon.liveGen), 0b1111,
           .normal)]

/-- CLONE_READ_DATA: a check error and used words outside 6..B end the clone, the staging bank's header INVALID with
the offset or the used words, at most 65,535, and CLONE_FAILED (08 R143); other header words are
kept, and the read moves on (08 R141, R143). The fifth header word, and then every copied word, which is queued
for the staging bank at the offset read, has the next word of the live bank read, once it has joined the queue;
after the last one the six header words are queued and the clone is DONE with the generation copied, and CLONE_DONE is
asked for. In SUPERVISING
no read follows that end, nor a copied word that finds the queue full. -/
def Obligations.CloneDataIsTaken : Prop :=
  ∀ (s : State) (w : Word), reading s (some .zoning) w → s.zon.stage = .cloning →
    (∃ t, exec (.cloneReadData true) s = .next t ∧ operationFailed s t .memoryError s.zon.pos)
    ∧ (s.zon.cloneHdr = [] → (w.toNat < 6 ∨ bankWords s < w.toNat) →
      ∃ t, exec (.cloneReadData false) s = .next t ∧ operationFailed s t .overrun (min w.toNat 65535))
    ∧ (s.zon.cloneHdr.length < 4 → s.zon.after = .nothing →
      (s.zon.cloneHdr = [] → 6 ≤ w.toNat ∧ w.toNat ≤ bankWords s) →
      ∃ t, exec (.cloneReadData false) s = .next t ∧ t.zon.op = s.zon.op
        ∧ t.zon.cloneHdr = s.zon.cloneHdr ++ [w] ∧ t.zon.pos = cloneNext s.zon.pos)
    ∧ (∀ u h0 h2 h3 : Word, s.zon.op = .cloning → nothingWaits s → s.tw.readList = [] →
        s.zon.writes = [] → s.zon.withheld = none →
      (s.zon.cloneHdr = [u, h0, h2, h3] → s.zon.pos = 4 → 6 < u.toNat →
        ∃ t, exec (.cloneReadData false) s = .next t ∧ t.zon.op = .cloning ∧ t.zon.pos = 6
          ∧ t.zon.cloneHdr = [u, h0, h2, h3, w] ∧ queueView t = queueView s ∧ t.mem = s.mem
          ∧ t.tw.read = some ⟨wordAt (bankBase s.regions s.zon.liveBank) 6, some .zoning⟩)
      ∧ ∀ h4 : Word,
        (s.zon.cloneHdr = [u, h0, h2, h3, h4] → s.zon.pos + 1 < u.toNat → s.tw.queue.length < 16 →
          ∃ t, exec (.cloneReadData false) s = .next t ∧ t.zon.op = .cloning ∧ t.zon.pos = s.zon.pos + 1
            ∧ queueView t = queueView s ++ [stagingEntry s s.zon.pos w] ∧ t.mem = s.mem
            ∧ t.tw.read = some ⟨wordAt (bankBase s.regions s.zon.liveBank) (s.zon.pos + 1), some .zoning⟩)
        ∧ (s.zon.cloneHdr = [u, h0, h2, h3, h4] → 16 ≤ s.tw.queue.length →
          ∃ t, exec (.cloneReadData false) s = .next t ∧ t.zon.op = .cloning ∧ t.zon.pos = s.zon.pos
            ∧ t.tw.queue = s.tw.queue ∧ (s.ldr.op = .supervising → t.tw.read = none)
            ∧ t.tw.waiting = [.value ⟨s.tw.nextId, wordAt (stagingBase s) s.zon.pos, w, 0b1111, .normal,
                .zoning⟩])
        ∧ ∀ copied : List (Nat × Word × BitVec 4 × EntryClass),
          (s.zon.cloneHdr = [u, h0, h2, h3] ∧ h4 = w ∧ s.zon.pos = 4 ∧ u.toNat ≤ 6 ∧ copied = [])
            ∨ (s.zon.cloneHdr = [u, h0, h2, h3, h4] ∧ u.toNat ≤ s.zon.pos + 1
              ∧ copied = [stagingEntry s s.zon.pos w]) →
          s.tw.queue.length + copied.length + 6 ≤ 16 →
          (∀ x ∈ copied ++ cloneEntries s u h0 h2 h3 h4,
            x.1 ∉ recordTargets s .zoning ∧ x.1 ∉ recordTargets s (.ctlStatus .zoning)) →
          ∃ t, exec (.cloneReadData false) s = .next t ∧ t.zon.op = .idle
            ∧ answered t.ctl.zoning .done (h2.extractLsb' 0 16)
            ∧ (copied ++ cloneEntries s u h0 h2 h3 h4).Sublist (queueView t)
            ∧ (s.ldr.op = .supervising → t.tw.read = none)
            ∧ eventAsked s.ring t .cloneDone (place 0 16 (h2.toNat % 65536)) u
            ∧ t.zon.liveBank = s.zon.liveBank ∧ t.zon.results = s.zon.results ∧ t.mem = s.mem)

/-- FLIP_COMPLETE: when the live word is performed the live bank and generation change, the results are
taken, and the commit ends DONE (08 R136, R145). Where the queue has room, the result words and the status word
are queued as STATUS, the old live bank's header word as STALE, and the zoning record (08 R127, R136); COMMIT_DONE is
asked for. -/
def Obligations.FlipCompletes : Prop :=
  (∀ s : State, recordWords s .results =
      [⟨s.regions.ccp.base + 64, BitVec.ofNat 32 s.zon.results.masked, 0b1111⟩,
       ⟨s.regions.ccp.base + 68, BitVec.ofNat 32 s.zon.results.empty, 0b1111⟩,
       ⟨s.regions.ccp.base + 72, BitVec.ofNat 32 s.zon.results.generation.toNat, 0b1111⟩,
       ⟨s.regions.ccp.base + 76, BitVec.ofNat 32 s.zon.results.total, 0b1111⟩])
  ∧ [HeaderState.blank, .staged, .valid, .invalid, .stale].map HeaderState.code = List.range 5
  ∧ (∀ (h : HeaderState) (o : Outcome) (n : Nat),
      headerWord h o n = place 0 4 h.code ||| place 8 8 o.code ||| place 16 16 n)
  ∧ (∀ (b : Fin 2) (g : BitVec 16), liveWord b g = place 0 8 b.val ||| place 16 16 g.toNat)
  ∧ ∀ (s : State) (e : Entry) (g : BitVec 16), writing s e → e.origin = .liveWord →
    s.zon.liveQueued = true → s.zon.flipGen = some g → s.ldr.closing = none →
    s.bus.a.held = none → s.bus.b.held = none →
    ∃ t, exec .flipComplete s = .next t
      ∧ t.zon.liveBank = otherBank s.zon.liveBank ∧ t.zon.liveGen = g ∧ t.zon.op = .idle
      ∧ t.zon.snapshot = none ∧ t.zon.results = ⟨s.zon.masked, s.zon.empty, g, s.zon.total⟩
      ∧ answered t.ctl.zoning .done g
      ∧ eventAsked s.ring t .commitDone (place 0 16 g.toNat ||| place 16 8 (otherBank s.zon.liveBank).val)
          (place 0 16 s.zon.total ||| place 16 16 s.zon.masked)
      ∧ (imagesApart s → roomFor s 13 →
          recordQueued t .status .results ∧ recordQueued t .status (.ctlStatus .zoning)
          ∧ recordQueued t .status .zoning)
      ∧ (roomFor s 1 → (∀ r : RecordId, r = .results ∨ r = .zoning ∨ r = .ctlStatus .zoning →
            wordAt (bankBase s.regions s.zon.liveBank) 1 ∉ recordTargets s r) →
          stagingEntry t 1 (headerWord .stale .none 0) ∈ queueView t)
      ∧ t.mem = Mem.writeWord e.target e.value e.mask s.mem

/-! ### RESTART and grants -/

/-- RESTART, the part not closing and the record not RUNNING: TVALID is deasserted, the part is closing, a pending
claim is answered ABORTED_RESTART, and every INSTALL in progress is ended (02 R37, 04 R73, 05 R80). The zoning unit
ends a suspended commit, one that has not queued its live word, and a clone, with ABORTED_RESTART and without a
header entry or an event (08 R144), none being asked for by a lock that the write overruns; one that has, and an
idle unit, stay. The status words of what has ended, and that of the RESTART, are queued URGENT where the queue has
room. -/
def Obligations.RestartBeginsClosing : Prop :=
  ∀ (s : State) (d : Side) (tag : BitVec 16) (lock : Bool),
    activeSide s d → ccpWordAt s 8 → s.ldr.closing = none → s.ctl.restart.state ≠ .running →
    ∃ t, exec (.restart d tag lock) s = .next t
      ∧ t.ldr.tvalid = false ∧ t.ldr.closing ≠ none ∧ t.ldr.op = .supervising
      ∧ answered t.ctl.restart .done 0 ∧ t.mast.claim = none
      ∧ t.mast.master = s.mast.master ∧ t.mast.generation = s.mast.generation
      ∧ (s.mast.claim ≠ none → answered t.ctl.mastership .abortedRestart 0)
      ∧ (∀ k : SlotIx, (t.lic.slots[k]).state =
          if (s.lic.slots[k]).state = .installing then .rejected else (s.lic.slots[k]).state)
      ∧ (s.zon.op = .validating ∨ s.zon.op = .marking ∨ s.zon.op = .suspended ∨ s.zon.op = .cloning
          ∨ s.zon.op = .flipping ∧ s.zon.liveQueued = false →
        t.zon.op = .idle ∧ t.zon.susp = none ∧ t.zon.snapshot = none ∧ t.zon.writes = []
        ∧ t.zon.withheld = none ∧ answered t.ctl.zoning .abortedRestart 0
        ∧ t.zon.liveBank = s.zon.liveBank ∧ t.zon.liveGen = s.zon.liveGen ∧ t.zon.results = s.zon.results
        ∧ (s.tw.waiting = [] → (∀ e ∈ t.tw.queue, e.cls = .normal → e ∈ s.tw.queue)
          ∧ (s.port.lockCount < 8 → t.ring = s.ring))
        ∧ (imagesApart s → roomFor s 13 → recordQueued t .urgent (.ctlStatus .zoning)))
      ∧ (s.zon.op = .idle ∨ s.zon.op = .flipping ∧ s.zon.liveQueued = true → nothingWaits s →
        t.zon = s.zon ∧ t.ctl.zoning = s.ctl.zoning)
      ∧ (imagesApart s → roomFor s 13 →
        recordQueued t .urgent (.ctlStatus .restart)
        ∧ (s.mast.claim ≠ none → recordQueued t .urgent (.ctlStatus .mastership))
        ∧ (∀ k : SlotIx, (s.lic.slots[k]).state = .installing → s.regions.lsa.base ≠ s.regions.lsa.limit →
            recordQueued t .urgent (.ctlStatus (.slot k))))
      ∧ t.mem = s.mem

/-- CLOSING_END: when the last awaited write is performed the queue, the waiting values and the read list are
discarded, an outstanding read is abandoned, and every unit returns to its power-on value but for what the rules
keep (02 R38, R40, 03 R42, 10 R161, R169): the modules' debounced lines, the link busy flag and counts, the
attempts in flight; the arbiter's owner, parked flag and lock count; the accesses that wait for the port; the
count of reference periods. Table memory and the lines stay. That the attempts left over end in turn (log 16),
that a recovery is held due (log 15) and that the count of the model's free values goes on (log 40) are its own
choices. -/
def Obligations.ClosingEndReturnsToTransparent : Prop :=
  ∀ (s : State) (e : Entry) (ids : List Nat), writing s e → s.ldr.closing = some ids → e.id ∈ ids →
    ¬(e.origin = .liveWord ∧ s.zon.liveQueued = true) →
    (∀ n ∈ ids, n = e.id ∨ ∀ x ∈ s.tw.queue, x.id ≠ n) → s.tw.waiting = [] →
    ∃ t, exec .closingEnd s = .next t
      ∧ t.ldr = Loader.powerOn ∧ t.tw.queue = [] ∧ t.tw.waiting = [] ∧ t.regions = Regions.empty
      ∧ t.mast = Mastership.powerOn ∧ t.gov = Governor.powerOn ∧ t.lic = Licence.powerOn
      ∧ t.zon = Zoning.powerOn ∧ t.fan = Fans.powerOn ∧ t.alm = Alarms.powerOn
      ∧ t.ring = Ring.powerOn ∧ t.ctl = Ctls.powerOn ∧ t.drop = DropRecord.powerOn
      ∧ t.params = Params.none ∧ t.tw.readList = []
      ∧ t.tw.read = s.tw.read.map (fun r => { r with op := none })
      ∧ t.time = { TimeBase.powerOn with refCount := s.time.refCount }
      ∧ t.time.seconds = 0 ∧ t.time.hourCount = 0 ∧ t.pins = s.pins
      ∧ t.bus.a.held = none ∧ t.bus.b.held = none
      ∧ t.port.mode = .rotating ∧ t.port.rotation = [.spa, .spb, .tw]
      ∧ (s.port.waitA = none → s.port.waitB = none → s.tw.read = none →
          t.port = { s.port with parked := true, current := none, mode := .rotating
                                 rotation := [.spa, .spb, .tw] })
      ∧ t.mdl = { Modules.powerOn with
          mods := t.mdl.mods, leftover := s.mdl.attempts, wire := s.mdl.wire, linkBusy := s.mdl.linkBusy
          heldClock := s.mdl.heldClock, busyCount := s.mdl.busyCount, stuckDue := s.mdl.stuckDue }
      ∧ (∀ i : ModIx, t.mdl.mods[i] = { Module.powerOn with
          pres := (s.mdl.mods[i]).pres, good := (s.mdl.mods[i]).good, unread := (s.mdl.mods[i]).unread })
      ∧ t.mem = Mem.writeWord e.target e.value e.mask s.mem

/-- INSTALL into an EMPTY or REJECTED slot, the part not closing: the slot is INSTALLING and its record RUNNING.
REMOVE from any slot but EMPTY and INSTALLING empties it (05 R78, R79, R84). Where the queue has room the slot's
status word is queued as STATUS (01 R20, 05 R77), and by a REMOVE that turns no port OFF and changes no alarm the
licence summary, of the form of 12 section 12.7 (05 R84, R91); a REMOVE asks for GRANT_REMOVED. The first read of an
INSTALL, of slot word 3, is issued at once or joins the read waiting list (05 R79, 03 R57). -/
def Obligations.InstallAndRemoveAreTaken : Prop :=
  (∀ s : State, recordWords s .licence =
      [⟨s.regions.esa.base + 44, BitVec.ofNat 32 s.lic.summary.total, 0b1111⟩,
       ⟨s.regions.esa.base + 48, BitVec.ofNat 32 s.lic.summary.assigned, 0b1111⟩,
       ⟨s.regions.esa.base + 52, BitVec.ofNat 32 s.lic.summary.heldUnlicensed, 0b1111⟩])
  ∧ ∀ (s : State) (d : Side) (k : SlotIx) (tag : BitVec 16) (lock : Bool),
    activeSide s d → slotWordAt s k → s.ldr.closing = none → (s.ctl.slots[k]).state ≠ .running →
    ((s.lic.slots[k]).state = .empty ∨ (s.lic.slots[k]).state = .rejected →
      ∃ t, exec (.install d k tag lock) s = .next t ∧ (t.lic.slots[k]).state = .installing
        ∧ t.lic.slots[k] = ⟨.installing, none, 0, []⟩ ∧ runningRecord t.ctl.slots[k]
        ∧ (s.tw.read = none → s.tw.readList = [] →
            t.tw.read = some ⟨s.regions.lsa.base + 4 * (8 * k.val + 3), some (.install k)⟩)
        ∧ (s.tw.read ≠ none ∨ s.tw.readList ≠ [] → nothingWaits s → t.tw.read = s.tw.read
            ∧ t.tw.readList = s.tw.readList ++ [⟨.install k, s.regions.lsa.base + 4 * (8 * k.val + 3)⟩])
        ∧ (roomFor s 1 → recordQueued t .status (.ctlStatus (.slot k)))
        ∧ presented t d (plainWrite (ctlAddr s.regions (.slot k) 0) (requestValue 1 0 tag) lock))
    ∧ ((s.lic.slots[k]).state ≠ .empty → (s.lic.slots[k]).state ≠ .installing →
      ∃ t, exec (.remove d k tag lock) s = .next t ∧ t.lic.slots[k] = GrantSlot.powerOn
        ∧ (∀ j, j ≠ k → t.lic.slots[j] = s.lic.slots[j])
        ∧ answered t.ctl.slots[k] .done 0
        ∧ eventAsked s.ring t .grantRemoved (place 0 8 k.val ||| place 8 8 (s.lic.slots[k]).state.code)
            (match (s.lic.slots[k]).grant with | none => 0 | some g => g.id)
        ∧ ((s.lic.slots[k]).state ≠ .active → imagesApart s →
            (roomFor s 1 → recordQueued t .status (.ctlStatus (.slot k)))
            ∧ (t.alm = s.alm → roomFor s 9 → recordQueued t .status .licence))
        ∧ presented t d (plainWrite (ctlAddr s.regions (.slot k) 0) (requestValue 2 0 tag) lock))

/-- Withdrawal (05 R86): the ports of groups no longer licensed go OFF UNLICENSED to the head of the held list
in ascending order, or show no source. Revocation (05 R90): where the pool list is longer than the total its
tail goes OFF, the statuses queued URGENT tail first, and stands at the head of the held list in list order, and
POOL_REVOKED is asked for.
REMOVE of an ACTIVE grant leaves a pool list within the recomputed total, and no port ON without a licence
that it has lost (05 R84, R87). -/
def Obligations.WithdrawnLicencesTurnPortsOff : Prop :=
  (∀ (lost : BitVec 48) (s : State),
      (∀ q : Port, lost.getLsbD (groupOf q) = true →
        ((s.gov.ports[q]).effective = true →
          ((withdrawGroups lost s).gov.ports[q]).effective = false
          ∧ ((withdrawGroups lost s).gov.ports[q]).reason = .unlicensed
          ∧ ((withdrawGroups lost s).gov.ports[q]).source = .none)
        ∧ ((s.gov.ports[q]).effective = false →
          (withdrawGroups lost s).gov.ports[q] = { s.gov.ports[q] with source := sourceOf s.lic q }))
      ∧ (∀ q : Port, lost.getLsbD (groupOf q) = false →
        (withdrawGroups lost s).gov.ports[q] = s.gov.ports[q])
      ∧ (withdrawGroups lost s).gov.held = (allPorts.filter fun q =>
          lost.getLsbD (groupOf q) && (s.gov.ports[q]).effective) ++ s.gov.held
      ∧ (∀ q : Port, groupLicensed s.lic q = false → q ∉ s.lic.pool → sourceOf s.lic q = .none))
  ∧ (∀ s : State,
      (s.lic.pool.length ≤ s.lic.poolTotal → revokePool s = s)
      ∧ (s.lic.poolTotal < s.lic.pool.length → s.lic.pool.Nodup →
          (∀ q ∈ s.lic.pool, (s.gov.ports[q]).source = .pool) →
        (revokePool s).lic.pool = s.lic.pool.take s.lic.poolTotal
        ∧ (∀ q ∈ s.lic.pool.drop s.lic.poolTotal,
            ((revokePool s).gov.ports[q]).effective = false
            ∧ ((revokePool s).gov.ports[q]).reason = .unlicensed
            ∧ ((revokePool s).gov.ports[q]).source = .none)
        ∧ (∀ q : Port, q ∉ s.lic.pool.drop s.lic.poolTotal →
            (revokePool s).gov.ports[q] = s.gov.ports[q])
        ∧ (revokePool s).gov.held = s.lic.pool.drop s.lic.poolTotal ++ s.gov.held
        ∧ eventAsked s.ring (revokePool s) .poolRevoked
            (BitVec.ofNat 32 (s.lic.pool.length - s.lic.poolTotal)) (BitVec.ofNat 32 s.lic.poolTotal)
        ∧ (s.tw.queue = [] → s.tw.waiting = [] → s.lic.pool.length ≤ s.lic.poolTotal + 16 →
            ((revokePool s).tw.queue.take (s.lic.pool.length - s.lic.poolTotal)).map
                (fun e => (e.target, e.cls)) =
              (s.lic.pool.drop s.lic.poolTotal).reverse.map fun q =>
                (wordAt s.regions.pct.base q.val, .urgent))))
  ∧ (∀ l : Licence, poolTotalOf l = min 384 ((List.finRange 8).map fun k : SlotIx =>
      match (l.slots[k]).state, (l.slots[k]).grant with
      | .active, some g => if g.kind = .pool then g.poolCount else 0
      | _, _ => 0).sum)
  ∧ ∀ (s : State) (d : Side) (k : SlotIx) (tag : BitVec 16) (lock : Bool),
      activeSide s d → slotWordAt s k → s.ldr.closing = none → (s.ctl.slots[k]).state ≠ .running →
      (s.lic.slots[k]).state = .active → s.lic.pool.Nodup →
      ∃ t, exec (.remove d k tag lock) s = .next t ∧ t.lic.poolTotal = poolTotalOf t.lic
        ∧ t.lic.pool.length ≤ t.lic.poolTotal
        ∧ ∀ q : Port, groupLicensed s.lic q = true → groupLicensed t.lic q = false →
            (t.gov.ports[q]).effective = false ∨ q ∈ t.lic.pool

/-- INSTALL_READ_DATA: a check error rejects the slot; a word before the fifth is kept, and the next body word
is read, at once or from the tail of the read waiting list; at the fifth the body is judged on its fields, its
check and its id (05 R79 to R83). A rejected body leaves licences and ports as they stand. An accepted one makes
the slot ACTIVE with its grant and its term: a POOL grant has the pool total recomputed (05 R87), and the ports
of a group that a GROUP grant newly licenses take source GROUP, leave the pool assignment list and stay ON
(05 R83, R89); by the settle no port that the budget carries goes OFF and no other port loses its pool licence.
Where the queue has room, the computed check of a judged body is queued for slot word 7, as a NORMAL entry with
bytes 2 and 3 alone (05 R83, 12 R185), in an empty queue before every other word of the event, and the slot's
status word as STATUS (05 R77). A rejection asks for GRANT_REJECTED, an acceptance for GRANT_INSTALLED (05 R81,
R83, 12 section 12.8). The computed check is the CRC-16 of the serial, most significant byte first, and of the bytes
of slot words 3 to 6 in ascending address, each byte most significant bit first (05 R82). -/
def Obligations.GrantBodyIsJudged : Prop :=
  ((∀ (b : Byte) (l : List Byte), crc16 [] = 0xFFFF#16
      ∧ crc16 (l ++ [b]) = (List.range 8).foldl (fun (r : BitVec 16) i =>
        (r <<< 1) ^^^ (if (r.getLsbD 15 ^^ b.getLsbD (7 - i)) = true then 0x1021#16 else 0)) (crc16 l))
    ∧ ∀ (b7 b6 b5 b4 b3 b2 b1 b0 : Byte) (w3 w4 w5 w6 w7 : Word) (at' : Word → Nat → Byte),
      (∀ w i, at' w i = w.extractLsb' (8 * i) 8) →
      grantCheck (b7 ++ b6 ++ b5 ++ b4 ++ b3 ++ b2 ++ b1 ++ b0) [w3, w4, w5, w6, w7] = crc16
        [b7, b6, b5, b4, b3, b2, b1, b0, at' w3 0, at' w3 1, at' w3 2, at' w3 3, at' w4 0, at' w4 1, at' w4 2,
          at' w4 3, at' w5 0, at' w5 1, at' w5 2, at' w5 3, at' w6 0, at' w6 1, at' w6 2, at' w6 3])
  ∧ [GrantKind.group, .pool].map GrantKind.code = [1, 2]
  ∧ (∀ w3 w4 w5 w6 w7 : Word, ∀ b : GrantBody, b = grantBody [w3, w4, w5, w6, w7] →
      b.id = w3 ∧ b.kind = w4.toNat % 256 ∧ b.poolCount = w4.toNat / 65536
      ∧ (∀ g < 32, b.groups.getLsbD g = w5.getLsbD g)
      ∧ (∀ g < 16, b.groups.getLsbD (32 + g) = w6.getLsbD g)
      ∧ b.term = w6.toNat / 65536 ∧ b.check = w7.setWidth 16)
  ∧ (∀ (b : GrantBody) (id kind count groups : Prop), (id ↔ b.id = 0) → (kind ↔ b.kind ≠ 1 ∧ b.kind ≠ 2) →
      (count ↔ b.kind = 2 ∧ (b.poolCount = 0 ∨ 384 < b.poolCount)) → (groups ↔ b.kind = 1 ∧ b.groups = 0) →
      (fieldFault b = some 1 ↔ id) ∧ (fieldFault b = some 2 ↔ ¬id ∧ kind)
      ∧ (fieldFault b = some 3 ↔ ¬id ∧ ¬kind ∧ count) ∧ (fieldFault b = some 4 ↔ ¬id ∧ ¬kind ∧ ¬count ∧ groups)
      ∧ (fieldFault b = none ↔ ¬id ∧ ¬kind ∧ ¬count ∧ ¬groups))
  ∧ (∀ (l : Licence) (k j : SlotIx) (id : Word) (held : SlotIx → Prop),
      (∀ i, held i ↔ i ≠ k ∧ ((l.slots[i]).state = .active ∨ (l.slots[i]).state = .expired)
        ∧ ∃ gr, (l.slots[i]).grant = some gr ∧ gr.id = id) →
      (duplicateSlot l k id = some j ↔ held j ∧ ∀ i, i < j → ¬held i)
      ∧ (duplicateSlot l k id = none ↔ ∀ i, ¬held i))
  ∧ ∀ (s : State) (k : SlotIx) (w : Word) (word : Nat → Nat), reading s (some (.install k)) w →
    (∀ n, word n = s.regions.lsa.base + 4 * (8 * k.val + n)) →
    (∃ t, exec (.installReadData true) s = .next t ∧ bodyRejected s t k ∧ nextReadIssued s t
      ∧ answered t.ctl.slots[k] .memoryError (BitVec.ofNat 16 (3 + (s.lic.slots[k]).image.length))
      ∧ rejectionAsked s t k .memoryError (3 + (s.lic.slots[k]).image.length))
    ∧ ((s.lic.slots[k]).image.length < 4 →
      ∃ t, exec (.installReadData false) s = .next t
        ∧ t.lic = { s.lic with
              slots := upd s.lic.slots k ({ s.lic.slots[k] with image := (s.lic.slots[k]).image ++ [w] }) }
        ∧ t.gov = s.gov
        ∧ (s.tw.readList = [] →
            t.tw.read = some ⟨word (3 + ((s.lic.slots[k]).image.length + 1)), some (.install k)⟩)
        ∧ (∀ x rest, s.tw.readList = x :: rest → t.tw.read = some ⟨x.target, some x.op⟩
            ∧ (nothingWaits s → s.ldr.op ≠ .loading →
                t.tw.readList = rest ++ [⟨.install k, word (3 + ((s.lic.slots[k]).image.length + 1))⟩])))
    ∧ (∀ (body : List Word) (b : GrantBody) (check : BitVec 16) (gr : Grant),
      body = (s.lic.slots[k]).image ++ [w] → body.length = 5 → b = grantBody body →
      check = grantCheck s.params.serial body →
      gr = ⟨b.id, if b.kind = 2 then .pool else .group, b.poolCount, b.groups, b.term⟩ →
      (∃ t, exec (.installReadData false) s = .next t ∧ nextReadIssued s t
        ∧ (imagesApart s → s.regions.lsa.present = true →
          (roomFor s 1 →
            ⟨s.tw.nextId, word 7, place 16 16 check.toNat, 0b1100, .normal, .install k⟩ ∈ t.tw.queue)
          ∧ (s.tw.waiting = [] → s.tw.queue = [] → t.tw.queue.head?
              = some ⟨s.tw.nextId, word 7, place 16 16 check.toNat, 0b1100, .normal, .install k⟩)
          ∧ (roomFor s 2 → recordQueued t .status (.ctlStatus (.slot k)))))
      ∧ (∀ n, fieldFault b = some n →
        ∃ t, exec (.installReadData false) s = .next t ∧ bodyRejected s t k
          ∧ answered t.ctl.slots[k] .badField (BitVec.ofNat 16 n) ∧ rejectionAsked s t k .badField n)
      ∧ (fieldFault b = none → b.check ≠ check →
        ∃ t, exec (.installReadData false) s = .next t ∧ bodyRejected s t k
          ∧ answered t.ctl.slots[k] .badCheck check ∧ rejectionAsked s t k .badCheck check.toNat)
      ∧ (fieldFault b = none → b.check = check →
        (∀ j, duplicateSlot s.lic k b.id = some j →
          ∃ t, exec (.installReadData false) s = .next t ∧ bodyRejected s t k
            ∧ answered t.ctl.slots[k] .duplicate (BitVec.ofNat 16 j.val)
            ∧ rejectionAsked s t k .duplicate j.val)
        ∧ (duplicateSlot s.lic k b.id = none →
          ∃ t, exec (.installReadData false) s = .next t
            ∧ t.lic.slots = upd s.lic.slots k ⟨.active, some gr, b.term, []⟩
            ∧ answered t.ctl.slots[k] .done (BitVec.ofNat 16 b.term)
            ∧ eventAsked s.ring t .grantInstalled (place 0 8 k.val ||| place 8 8 b.kind
                ||| place 16 16 (if b.kind = 2 then b.poolCount
                  else ((List.range 48).filter fun g => b.groups.getLsbD g).length)) b.id
            ∧ (b.kind = 2 → t.lic.poolTotal = poolTotalOf t.lic)
            ∧ (b.kind = 1 → t.lic.poolTotal = s.lic.poolTotal
              ∧ ∀ q : Port, b.groups.getLsbD (groupOf q) = true → groupLicensed s.lic q = false →
                  (t.gov.ports[q]).source = .group ∧ q ∉ t.lic.pool)
            ∧ (s.gov.committed ≤ s.gov.headroomDw →
              (∀ q : Port, (s.gov.ports[q]).effective = true → (t.gov.ports[q]).effective = true)
              ∧ ∀ q ∈ s.lic.pool, b.kind = 2 ∨ b.groups.getLsbD (groupOf q) = false
                  ∨ groupLicensed s.lic q = true → q ∈ t.lic.pool))))

/-- HOUR_TICK, when it has fallen due: every ACTIVE slot with a term loses an hour and expires at its
last, for which GRANT_EXPIRED is asked; the other slots stay (05 R85). Where a slot expires its licences are withdrawn
before the settle (05 R85, R86, R87, R90): the pool total is recomputed, the ON ports that lose their group licence go
OFF UNLICENSED with source NONE to the head of the held list in ascending order, the OFF ones show source NONE, and the
tail of the pool list beyond the total goes OFF in the same way, in front of them. Where no slot expires, ports and
licences stay. The governor's laws, which StepKeepsGovernorSound keeps, are assumed. -/
def Obligations.HourTickCountsTerms : Prop :=
  ∀ s : State, running s → s.time.hourDue = true →
    ∃ t, exec .hourTick s = .next t ∧ t.time.hourDue = false ∧ t.mem = s.mem
      ∧ (∀ k : SlotIx, (s.lic.slots[k]).counts = true ↔ (s.lic.slots[k]).state = .active
          ∧ ∃ g, (s.lic.slots[k]).grant = some g ∧ g.term ≠ 0)
      ∧ ((∀ k : SlotIx, (s.lic.slots[k]).counts = true → 1 < (s.lic.slots[k]).remaining) →
          t.gov = s.gov ∧ t.lic.pool = s.lic.pool ∧ t.lic.poolTotal = s.lic.poolTotal)
      ∧ (governorSound s → (∃ k : SlotIx, (s.lic.slots[k]).counts = true ∧ (s.lic.slots[k]).remaining ≤ 1) →
        ∃ u : State, t.gov = (settle u).gov ∧ t.lic = (settle u).lic ∧ u.lic.slots = t.lic.slots
          ∧ u.lic.poolTotal = poolTotalOf t.lic ∧ u.lic.pool = s.lic.pool.take (poolTotalOf t.lic)
          ∧ u.gov.held = s.lic.pool.drop (poolTotalOf t.lic)
              ++ (allPorts.filter fun q => groupLicensed s.lic q && !groupLicensed t.lic q
                && (s.gov.ports[q]).effective) ++ s.gov.held
          ∧ ∀ q : Port, (u.gov.ports[q]).desired = (s.gov.ports[q]).desired
            ∧ (groupLicensed s.lic q = true → groupLicensed t.lic q = false →
              (s.gov.ports[q]).effective = true →
              (u.gov.ports[q]).effective = false ∧ (u.gov.ports[q]).reason = .unlicensed
                ∧ (u.gov.ports[q]).source = .none)
            ∧ (q ∈ s.lic.pool.drop (poolTotalOf t.lic) →
              (u.gov.ports[q]).effective = false ∧ (u.gov.ports[q]).reason = .unlicensed
                ∧ (u.gov.ports[q]).source = .none)
            ∧ (groupLicensed s.lic q = true → groupLicensed t.lic q = false →
              (s.gov.ports[q]).effective = false →
              u.gov.ports[q] = { s.gov.ports[q] with source := .none })
            ∧ (groupLicensed t.lic q = true ∨ groupLicensed s.lic q = false →
              q ∉ s.lic.pool.drop (poolTotalOf t.lic) → u.gov.ports[q] = s.gov.ports[q]))
      ∧ ∀ k : SlotIx,
        ((s.lic.slots[k]).counts = true → 1 < (s.lic.slots[k]).remaining →
          t.lic.slots[k] = { s.lic.slots[k] with remaining := (s.lic.slots[k]).remaining - 1 }
          ∧ answered t.ctl.slots[k] .done (BitVec.ofNat 16 ((s.lic.slots[k]).remaining - 1)))
        ∧ ((s.lic.slots[k]).counts = true → (s.lic.slots[k]).remaining ≤ 1 →
          t.lic.slots[k] = { s.lic.slots[k] with state := .expired, remaining := 0 }
          ∧ (∀ g, (s.lic.slots[k]).grant = some g →
              eventAsked s.ring t .grantExpired (place 0 8 k.val) g.id)
          ∧ answered t.ctl.slots[k] .done 0)
        ∧ ((s.lic.slots[k]).counts = false → t.lic.slots[k] = s.lic.slots[k])

/-- TICK with nothing due. A stopped timer stays stopped, a running one loses a tick, and at its last it expires:
the expiry is held as due until its own command takes it, the model's choice (log 2). A sample that agrees with
the debounced level clears the count; one that differs raises it, and the fifth makes the change due (10 R162;
log 2). In SUPERVISING every running timer takes the tick, the heartbeat timers unless BYPASS is asserted, and the
hour tick count rises; in every operating state the module lines are sampled (01 R18, 02 R40, R41, 04 R60,
09 R151, R154 to R156, 10 R162, R164, 11 R176, R179). -/
def Obligations.TickTakesOneFromEveryTimer : Prop :=
  (Timer.tick .stopped = .stopped ∧ Timer.tick .expired = .expired
    ∧ (∀ n, 1 < n → Timer.tick (.running n) = .running (n - 1))
    ∧ ∀ n ≤ 1, Timer.tick (.running n) = .expired)
  ∧ (∀ (x : Bool) (d : Debounce),
      (x = d.level → d.sample x = ⟨d.level, 0, false⟩)
      ∧ (x ≠ d.level → d.count + 1 < 5 → d.sample x = ⟨d.level, d.count + 1, d.due⟩)
      ∧ (x ≠ d.level → 5 ≤ d.count + 1 → d.sample x = ⟨d.level, d.count, true⟩))
  ∧ (∀ (s : State) (pres good : BitVec 4), s.pins.inReset = false → s.ldr.op ≠ .supervising → nothingDue s →
    ∃ t, exec (.tick pres good) s = .next t
      ∧ t.time = { s.time with refCount := 0 } ∧ t.pins = { s.pins with modPres := pres, modGood := good }
      ∧ t.fan = s.fan ∧ t.mast = s.mast ∧ t.alm = s.alm ∧ t.mdl.pollTimer = s.mdl.pollTimer
      ∧ ∀ i : ModIx, t.mdl.mods[i] = { s.mdl.mods[i] with
          pres := ((s.mdl.mods[i]).pres).sample (pres.getLsbD i.val)
          good := ((s.mdl.mods[i]).good).sample (good.getLsbD i.val) })
  ∧ ∀ (s : State) (pres good : BitVec 4), running s → nothingDue s →
    ∃ t, exec (.tick pres good) s = .next t
      ∧ t.time.refCount = 0 ∧ t.time.seconds = s.time.seconds
      ∧ t.time.hourCount = (if 360000 ≤ s.time.hourCount + 1 then 0 else s.time.hourCount + 1)
      ∧ t.time.hourDue = decide (360000 ≤ s.time.hourCount + 1)
      ∧ t.time.secondDue = decide ((s.time.hourCount + 1) % 100 = 0)
      ∧ t.mast.timerA = (if s.pins.bypass = true then s.mast.timerA else s.mast.timerA.tick)
      ∧ t.mast.timerB = (if s.pins.bypass = true then s.mast.timerB else s.mast.timerB.tick)
      ∧ (∀ r : RotorIx, (t.fan.rotors[r]).spin = ((s.fan.rotors[r]).spin).tick)
      ∧ (∀ y : TrayIx, (t.fan.trays[y]).fall = ((s.fan.trays[y]).fall).tick
          ∧ (t.fan.trays[y]).derate = ((s.fan.trays[y]).derate).tick
          ∧ (t.fan.trays[y]).recovery = ((s.fan.trays[y]).recovery).tick)
      ∧ (∀ i : ModIx, (t.mdl.mods[i]).pres = ((s.mdl.mods[i]).pres).sample (pres.getLsbD i.val)
          ∧ (t.mdl.mods[i]).good = ((s.mdl.mods[i]).good).sample (good.getLsbD i.val))
      ∧ t.mdl.pollTimer = s.mdl.pollTimer.tick ∧ t.alm.flash = s.alm.flash.tick
      ∧ t.alm.list = s.alm.list.map (fun e => { e with clear := e.clear.tick })
      ∧ t.pins.modPres = pres ∧ t.pins.modGood = good ∧ t.mem = s.mem

/-- CHASSIS_SECOND, when it has fallen due, raises the count by one, wrapping; BYPASS changes its line
and no unit (01 R18, R19, 02 R41). -/
def Obligations.SecondCountsAndBypassLineChanges : Prop :=
  (∀ s : State, s.pins.inReset = false → s.time.secondDue = true →
    ∃ t, exec .chassisSecond s = .next t ∧ t.time.seconds = s.time.seconds + 1
      ∧ t.time.secondDue = false ∧ t.time.hourCount = s.time.hourCount ∧ t.mem = s.mem)
  ∧ ∀ s : State,
    (∃ t, exec .bypassAssert s = .next t ∧ t.pins = { s.pins with bypass := true }
      ∧ t.mem = s.mem ∧ t.gov = s.gov ∧ t.mast = s.mast ∧ t.lic = s.lic ∧ t.fan = s.fan
      ∧ t.mdl = s.mdl ∧ t.alm = s.alm ∧ t.time = s.time ∧ requesting t .tw = false)
    ∧ ∃ t, exec .bypassDeassert s = .next t ∧ t.pins = { s.pins with bypass := false }
      ∧ t.mem = s.mem ∧ t.gov = s.gov ∧ t.mast = s.mast ∧ t.lic = s.lic ∧ t.fan = s.fan
      ∧ t.mdl = s.mdl ∧ t.alm = s.alm ∧ t.time = s.time

/-! ### The port and the table writer -/

/-- ACCESS_END of an upstream access: a write stores its words and completes; a read completes with the
words of table memory and their check indications (01 R3, R17, 03 R43); where no other access is wanted the
port is left parked with its owner, the requester at the tail of the rotation, and the lock count as 03 R47
says. An idle port with no lock sequence is granted by arbitration to the first requester of the priority
order that requests (03 R45, R46), the owner's own request among them (log 32); a lock sequence's holder is
served without it, up to the eighth locked access (03 R47, R48), also without its lock (log 13), and the ninth
asks for LOCK_OVERRUN before the arbitration (log 12): the three logs are the model's choices. -/
def Obligations.UpstreamAccessEnds : Prop :=
  (∀ (s : State) (d : Side) (a : Access) (errs : BitVec 4),
    s.pins.inReset = false → s.port.current = some (.up d a) →
    (∀ ops, a.body = .write ops →
      ∃ t, exec (.accessEnd errs) s = .next t ∧ (t.bus.get d).done = .write
        ∧ t.mem = ops.foldl (fun m op =>
            Mem.writeWord (targetAddr s op.target) (opValue s op) op.enables m) s.mem)
    ∧ (portQuiet s → a.startsLoad = false →
      ∃ t, exec (.accessEnd errs) s = .next t
        ∧ t.port = { s.port with
            parked := true, current := none
            rotation := (s.port.rotation.filter fun r => r ≠ .ofSide d) ++ [.ofSide d]
            lockCount := if a.lock = true then s.port.lockCount + 1 else 0 })
    ∧ ∀ ts, a.body = .read ts →
      ∃ t, exec (.accessEnd errs) s = .next t ∧ t.mem = s.mem
        ∧ (t.bus.get d).done = .read (ts.zipIdx.map fun x =>
            (Mem.readWord s.mem (targetAddr s x.1), errs.getLsbD x.2)))
  ∧ (∀ t : TableWriter, escalated t = true ↔
      ((∃ e ∈ t.queue, e.cls = .urgent) ∨ 12 ≤ t.queue.length))
  ∧ (∀ s : State,
      (requesting s .spa = true ↔ s.port.waitA ≠ none) ∧ (requesting s .spb = true ↔ s.port.waitB ≠ none)
      ∧ (requesting s .tw = true ↔ s.pins.bypass = false ∧ (s.tw.queue ≠ [] ∨ s.tw.read ≠ none))
      ∧ ((∀ r, requesting s r = false) → arbitrate s = s)
      ∧ (escalated s.tw = true → requesting s .tw = true → grantedTo s (arbitrate s) .tw)
      ∧ (escalated s.tw = false ∨ requesting s .tw = false →
        (s.port.mode = .fixed →
          (∀ d : Side, d = (if s.ldr.op = .supervising ∧ s.mast.master = some .b then .b else .a) →
            (requesting s (.ofSide d) = true → grantedTo s (arbitrate s) (.ofSide d))
            ∧ (requesting s (.ofSide d) = false →
              (requesting s (.ofSide d.other) = true → grantedTo s (arbitrate s) (.ofSide d.other))
              ∧ (requesting s (.ofSide d.other) = false → requesting s .tw = true →
                grantedTo s (arbitrate s) .tw))))
        ∧ (s.port.mode = .rotating → ∀ before r after, s.port.rotation = before ++ r :: after →
            (∀ x ∈ before, requesting s x = false) → requesting s r = true →
            grantedTo s (arbitrate s) r))
      ∧ (s.port.lockCount = 0 → grantIdle s = arbitrate s)
      ∧ ∀ d : Side, s.port.lockCount ≠ 0 → s.port.owner = some (.ofSide d) →
        (s.port.wait d = none → grantIdle s = s)
        ∧ ∀ a : Access, s.port.wait d = some a →
          (a.lock = false ∨ s.port.lockCount < 8 → grantedTo s (grantIdle s) (.ofSide d))
          ∧ (a.lock = true → 8 ≤ s.port.lockCount →
            grantIdle s = arbitrate (appendEvent .lockOverrun (place 0 8 (Side.code d))
              (BitVec.ofNat 32 a.addr) (s.setPort { s.port with lockCount := 0 }))))
  ∧ ∀ t : TableWriter,
      (∀ before e after, t.queue = before ++ e :: after → (∀ x ∈ before, x.cls ≠ .urgent) →
        e.cls = .urgent → chooseTw t = some (.twWrite e))
      ∧ ((∀ x ∈ t.queue, x.cls ≠ .urgent) →
        (t.read ≠ none → chooseTw t = some .twRead)
        ∧ (t.read = none → chooseTw t = t.queue.head?.map Current.twWrite))

/-- TW_WRITE_PERFORMED: the entry is stored in the enabled bytes of its word; with nothing waiting and distinct
serial numbers it leaves the queue (03 R51). That it is stored as it stands at the end of its access, when it has
been coalesced into or removed meanwhile, is the model's choice (log 8). PUBLISHED_PRODUCER_UPDATE: the published
producer takes the value of a producer index entry (11 R183). WAITING_VALUE_JOINS where the entry publication alone
waits behind a full queue: its next entry joins the tail with the value that the units now hold, and the publication
waits for the next place, or has queued its last entry (02 R36). ENTRY_PUBLICATION_END: the ACCEPTED verdict write
asserts TVALID (02 R36). -/
def Obligations.TableWriterWritesTakeEffect : Prop :=
  (∀ (s : State) (e : Entry), writing s e →
      ∃ t, exec .twWritePerformed s = .next t
        ∧ t.mem = Mem.writeWord e.target e.value e.mask s.mem
        ∧ (e.mask = 0b1111 → Mem.wf s.mem = true → Mem.readWord t.mem e.target = e.value)
        ∧ (s.ldr.closing = none → e.origin ≠ .liveWord → s.tw.waiting = [] →
            (∀ x ∈ s.tw.queue, x.id < s.tw.nextId) → e ∈ s.tw.queue → ∀ x ∈ t.tw.queue, x.id ≠ e.id))
  ∧ (∀ (s : State) (e : Entry), writing s e → s.ldr.op = .supervising → s.ldr.closing = none →
      e.target = wordAt s.regions.ccp.base 27 → e.origin ≠ .liveWord →
      ∃ t, exec .publishedProducerUpdate s = .next t ∧ t.ring.published = e.value.toNat
        ∧ t.ring.consumer = s.ring.consumer
        ∧ t.mem = Mem.writeWord e.target e.value e.mask s.mem)
  ∧ (∀ (s : State) (e : Entry) (i : Nat), writing s e → e ∈ s.tw.queue → (s.tw.queue.map (·.id)).Nodup →
      s.tw.queue.length = 16 → s.tw.waiting = [.publication] → s.ldr.pub = some i → s.ldr.closing = none →
      e.origin ≠ .liveWord →
      ∃ t, exec .waitingValueJoins s = .next t
        ∧ t.tw.queue = (s.tw.queue.filter fun x => decide (x.id ≠ e.id)) ++
            [⟨s.tw.nextId, (pubWord s i).target, (pubWord s i).value, (pubWord s i).mask, .normal,
              if pubCount s ≤ i + 1 then .publicationEnd else .publication⟩]
        ∧ t.tw.waiting = (if pubCount s ≤ i + 1 then [] else [.publication])
        ∧ t.ldr.pub = (if pubCount s ≤ i + 1 then none else some (i + 1))
        ∧ t.mem = Mem.writeWord e.target e.value e.mask s.mem)
  ∧ (∀ (s : State) (e : Entry), writing s e → e.origin = .publicationEnd → s.ldr.op = .supervising →
      s.ldr.closing = none →
      ∃ t, exec .entryPublicationEnd s = .next t ∧ t.ldr.tvalid = true ∧ (lines t).tvalid = true
        ∧ t.mem = Mem.writeWord e.target e.value e.mask s.mem)

/-! ### Ports -/

/-- How a value comes to the write queue: an URGENT or STATUS value coalesces into the queued entry for its
target, or else joins the tail, and removes the NORMAL entries it stands in for (03 R52, R53); where no place
is free it replaces the waiting value for its target, or an URGENT or NORMAL value waits and a STATUS value
marks its record (03 R54, R55). A non-empty waiting list counts as a full queue (log 22), and a word that
changes while its record is marked is queued again (log 23), the model's choices.
A record that is published where the queue has room has every word of it in the queue, with the values that the
units hold, and the entries for other words stay (03 R50, R55).
WAITING_VALUE_JOINS and PUBLISH_PENDING_QUEUED: the place freed by a performed write goes to the one value that
waits, or to the one record that does, whose words left are all queued when there is room (03 R54, R55). -/
def Obligations.QueuePlacesAreTakenAndGiven : Prop :=
  (∀ (t u : TableWriter) (cls : EntryClass) (r : RecordId) (targets : List Nat) (w : RecWord),
      cls = .urgent ∨ cls = .status → u = t.put cls r targets w →
      ((∃ e ∈ t.queue, e.target = w.target ∧ (e.cls = .urgent ∨ e.cls = .status)) →
        u.waiting = t.waiting
        ∧ u.queue = (t.queue.filter fun e =>
            decide (¬(e.cls = .normal ∧ e.target = w.target ∧ e.mask = w.mask))).map fun e =>
          if e.target = w.target ∧ (e.cls = .urgent ∨ e.cls = .status) then
            { e with value := w.value, mask := w.mask
                     cls := if cls = .urgent ∨ e.cls = .urgent then .urgent else .status }
          else e)
      ∧ ((∀ e ∈ t.queue, ¬(e.target = w.target ∧ (e.cls = .urgent ∨ e.cls = .status))) →
        (t.waiting = [] → t.queue.length < 16 →
          u.waiting = []
          ∧ u.queue = (t.queue.filter fun e =>
              decide (¬(e.cls = .normal ∧ e.target = w.target ∧ e.mask = w.mask))) ++
            [⟨t.nextId, w.target, w.value, w.mask, cls, recordOrigin r⟩])
        ∧ (∀ v : Entry, t.waiting = [.value v] → v.target = w.target → v.mask = w.mask →
          u.queue = t.queue ∧ u.waiting =
            [.value { v with value := w.value, cls := if v.cls = .urgent then .urgent else cls }])
        ∧ ((∀ v, .value v ∈ t.waiting → ¬(v.target = w.target ∧ v.mask = w.mask)) →
            t.waiting ≠ [] ∨ 16 ≤ t.queue.length →
          u.queue = t.queue
          ∧ (cls = .urgent → u.waiting = t.waiting ++
              [.value ⟨t.nextId, w.target, w.value, w.mask, .urgent, recordOrigin r⟩])
          ∧ (cls = .status → (∀ l, .record r l ∉ t.waiting) →
              u.waiting = t.waiting ++ [.record r targets])
          ∧ (cls = .status → ∀ l, .record r l ∈ t.waiting → u.waiting.length = t.waiting.length
              ∧ ∃ l', .record r l' ∈ u.waiting ∧ w.target ∈ l' ∧ ∀ a ∈ l, a ∈ l'))))
  ∧ (∀ (t : TableWriter) (o : Origin) (w : RecWord),
      (t.waiting = [] → t.queue.length < 16 → (t.putNormal o w).waiting = []
        ∧ (t.putNormal o w).queue =
          t.queue ++ [⟨t.nextId, w.target, w.value, w.mask, .normal, o⟩])
      ∧ (t.waiting ≠ [] ∨ 16 ≤ t.queue.length → (t.putNormal o w).queue = t.queue
        ∧ (t.putNormal o w).waiting =
          t.waiting ++ [.value ⟨t.nextId, w.target, w.value, w.mask, .normal, o⟩]))
  ∧ (∀ (s : State) (cls : EntryClass) (r : RecordId), cls = .urgent ∨ cls = .status →
      roomFor s (recordWords s r).length →
      recordQueued (publish cls r s) cls r ∧ (publish cls r s).tw.waiting = []
      ∧ ∀ e ∈ s.tw.queue, e.target ∉ recordTargets s r → e ∈ (publish cls r s).tw.queue)
  ∧ ∀ (s : State) (e : Entry), writing s e → e ∈ s.tw.queue → s.tw.queue.length ≤ 16 →
    s.ldr.closing = none → e.origin ≠ .liveWord →
    (∀ v : Entry, s.tw.waiting = [.value v] → v.isBankWrite = false →
      ∃ t, exec .waitingValueJoins s = .next t ∧ t.tw.waiting = []
        ∧ queuedValue t v.target v.value
        ∧ t.mem = Mem.writeWord e.target e.value e.mask s.mem)
    ∧ ∀ (r : RecordId) (left : List Nat), s.tw.waiting = [.record r left] →
      s.tw.queue.length + left.length ≤ 17 →
      ∃ t, exec .publishPendingQueued s = .next t ∧ t.tw.waiting = []
        ∧ (∀ w ∈ recordWords s r, w.target ∈ left → queuedValue t w.target w.value)
        ∧ t.mem = Mem.writeWord e.target e.value e.mask s.mem

/-- ABANDONED_READ_DATA: the data is discarded, and the head of the read waiting list has its read issued
(03 R57). -/
def Obligations.AbandonedDataIsDiscarded : Prop :=
  ∀ (s : State) (w : Word) (err : Bool), reading s none w → nothingWaits s → s.ldr.op ≠ .loading →
    ∃ t, exec (.abandonedReadData err) s = .next t
      ∧ t.tw.read = s.tw.readList.head?.map (fun r => ⟨r.target, some r.op⟩)
      ∧ t.tw.readList = s.tw.readList.tail ∧ t.zon = s.zon ∧ t.ldr = s.ldr ∧ t.lic = s.lic
      ∧ t.mem = s.mem

/-- CONSUMER_INDEX_WRITE from the active side: a value in the unconsumed span is taken and the write
passes; another is dropped PART_OWNED and the copy is kept; with EVR absent 0 alone is in the span. A write to
the word without all four byte enables is dropped PART_OWNED (01 R11, R15, 11 R182). -/
def Obligations.ConsumerIndexIsChecked : Prop :=
  (∀ (s : State) (d : Side) (addr : BitVec 24) (w : WriteWord) (lock : Bool), activeSide s d →
    ccpWordAt s 28 → addr.toNat = wordAt s.regions.ccp.base 28 → w.enables ≠ 0b1111 →
    ∃ t, exec (.upstreamWrite d addr (.single w) lock) s = .next t
      ∧ completedWrite t d ∧ t.ring.consumer = s.ring.consumer ∧ t.mem = s.mem
      ∧ t.drop = dropEntered s.drop addr.toNat d .partOwned)
  ∧ (∀ (s : State) (d : Side) (v : Word) (lock : Bool), activeSide s d → ccpWordAt s 28 →
    s.regions.evr.present = false →
    ∃ t, exec (.consumerIndexWrite d v lock) s = .next t
      ∧ (v = 0 → t.ring.consumer = 0
          ∧ presented t d (plainWrite (wordAt s.regions.ccp.base 28) ⟨0, 0b1111⟩ lock))
      ∧ (v ≠ 0 → t.ring.consumer = s.ring.consumer ∧ completedWrite t d
          ∧ t.drop = dropEntered s.drop (wordAt s.regions.ccp.base 28) d .partOwned))
  ∧ ∀ (s : State) (d : Side) (v : Word) (lock : Bool), activeSide s d → ccpWordAt s 28 →
    s.regions.evr.present = true → s.ring.consumer < s.params.ringCapacity →
    s.ring.producer < s.params.ringCapacity →
    ∃ t, exec (.consumerIndexWrite d v lock) s = .next t
      ∧ (v.toNat < s.params.ringCapacity →
          (∃ n ≤ (s.ring.producer + s.params.ringCapacity - s.ring.consumer) % s.params.ringCapacity,
            (s.ring.consumer + n) % s.params.ringCapacity = v.toNat) →
          t.ring.consumer = v.toNat
          ∧ presented t d (plainWrite (wordAt s.regions.ccp.base 28) ⟨v, 0b1111⟩ lock))
      ∧ (s.params.ringCapacity ≤ v.toNat
          ∨ (∀ n ≤ (s.ring.producer + s.params.ringCapacity - s.ring.consumer) % s.params.ringCapacity,
            (s.ring.consumer + n) % s.params.ringCapacity ≠ v.toNat) →
          t.ring.consumer = s.ring.consumer ∧ completedWrite t d
          ∧ t.drop = dropEntered s.drop (wordAt s.regions.ccp.base 28) d .partOwned)

/-- An event that a unit asks for: nothing outside SUPERVISING, without EVR or masked; lost when the ring
is full or five entries are not free; else recorded at the producer index, which advances and never
reaches the consumer copy (03 R56, 11 R181). The kinds have the numbers 1 to 21 of 12 section 12.8. Which event a unit
asks for, with which details, stands in the statements about the unit, each in the form of eventAsked. -/
def Obligations.EventIsAppendedOrLost : Prop :=
  [Kind.descriptorTaken, .mastership, .grantInstalled, .grantRejected, .grantExpired, .grantRemoved, .poolRevoked,
      .shed, .restored, .thermalHold, .commitDone, .commitFailed, .commitSuspended, .cloneDone, .cloneFailed,
      .alarmRaised, .alarmChanged, .alarmCleared, .lockOverrun, .moduleState, .trayState].map Kind.code
    = (List.range 21).map (· + 1)
  ∧ ∀ (s : State) (k : Kind) (w2 w3 : Word),
    (s.ldr.op ≠ .supervising ∨ s.regions.evr.present = false ∨ s.params.kindMask.getLsbD k.code = true →
      appendEvent k w2 w3 s = s)
    ∧ (s.ldr.op = .supervising → s.regions.evr.present = true →
        s.params.kindMask.getLsbD k.code = false →
      ((s.ring.producer + 1) % s.params.ringCapacity = s.ring.consumer ∨ s.tw.waiting ≠ []
          ∨ 11 < s.tw.queue.length →
        appendEvent k w2 w3 s = s.setRing { s.ring with
          seq := s.ring.seq + 1, lost := if s.ring.lost < 255 then s.ring.lost + 1 else s.ring.lost })
      ∧ ((s.ring.producer + 1) % s.params.ringCapacity ≠ s.ring.consumer → s.tw.waiting = [] →
          s.tw.queue.length ≤ 11 →
        (appendEvent k w2 w3 s).ring.producer = (s.ring.producer + 1) % s.params.ringCapacity
        ∧ (appendEvent k w2 w3 s).ring.producer ≠ (appendEvent k w2 w3 s).ring.consumer
        ∧ (appendEvent k w2 w3 s).ring.seq = s.ring.seq + 1
        ∧ (appendEvent k w2 w3 s).ring.lost = 0
        ∧ (appendEvent k w2 w3 s).tw.queue.map (fun e => (e.target, e.value, e.mask, e.cls)) =
          s.tw.queue.map (fun e => (e.target, e.value, e.mask, e.cls)) ++
          [(s.regions.evr.base + 16 * s.ring.producer,
            place 0 8 k.code ||| place 8 8 s.ring.lost ||| place 16 16 s.ring.seq.toNat, 0b1111, .event),
           (s.regions.evr.base + 16 * s.ring.producer + 4, s.time.seconds, 0b1111, .event),
           (s.regions.evr.base + 16 * s.ring.producer + 8, w2, 0b1111, .event),
           (s.regions.evr.base + 16 * s.ring.producer + 12, w3, 0b1111, .event),
           (s.regions.ccp.base + 108,
            BitVec.ofNat 32 ((s.ring.producer + 1) % s.params.ringCapacity), 0b1111, .event)]))

/-! ### Fans -/

/-- TACH_EDGE, GOOD_MEASUREMENT and STALLED_MEASUREMENT: how an edge moves a measurement, which sample a
completed one gives (09 R148, R149), how the rotor is judged by it (09 R150), and the tray state that follows
(09 R152). The curve value and the target duty (09 R153). A measurement that changes the tray record alone has
its words, of the form of 12 section 12.7, queued as STATUS where the queue has room (09 R160). -/
def Obligations.TachEdgesMeasure : Prop :=
  (∀ (s : State) (y : TrayIx) (r0 r1 : RotorIx), r0.val = 2 * y.val → r1.val = 2 * y.val + 1 →
      recordWords s (.tray y) =
        [⟨s.regions.esa.base + 4 * (18 + 2 * y.val), placeBit 0 (s.pins.trayPres.getLsbD y.val)
            ||| place 4 4 (s.fan.trays[y]).state.code ||| place 8 8 (s.fan.trays[y]).duty
            ||| place 16 4 (s.fan.rotors[r0]).state.code ||| place 20 4 (s.fan.rotors[r1]).state.code, 0b1111⟩,
         ⟨s.regions.esa.base + 4 * (19 + 2 * y.val), place 0 16 (s.fan.rotors[r0]).filtered
            ||| place 16 16 (s.fan.rotors[r1]).filtered, 0b1111⟩])
  ∧ [TrayState.absent, .ok, .degraded, .failed].map TrayState.code = List.range 4
  ∧ [RotorState.absent, .spinup, .ok, .slow, .stalled].map RotorState.code = List.range 5
  ∧ (∀ (x : Rotor) (e ticks : Nat),
      (x.state = .ok → e * 70 / 100 ≤ x.filtered → x.judgeGood e ticks = { x with low := 0 })
      ∧ (x.state = .ok → x.filtered < e * 70 / 100 → x.low < 2 →
          x.judgeGood e ticks = { x with low := x.low + 1 })
      ∧ (x.state = .ok → x.filtered < e * 70 / 100 → 2 ≤ x.low →
          x.judgeGood e ticks = { x with low := 3, state := .slow })
      ∧ (x.state = .slow → e * 80 / 100 ≤ x.filtered →
          x.judgeGood e ticks = { x with state := .ok, low := 0 })
      ∧ (x.state = .slow → x.filtered < e * 80 / 100 → x.judgeGood e ticks = x)
      ∧ (x.state = .stalled →
          x.judgeGood e ticks = { x with state := .spinup, spin := .running ticks, low := 0 })
      ∧ (x.state = .spinup ∨ x.state = .absent → x.judgeGood e ticks = x ∧ x.judgeStalled = x)
      ∧ (x.state = .ok ∨ x.state = .slow → x.judgeStalled = { x with state := .stalled, low := 0 })
      ∧ (x.state = .stalled → x.judgeStalled = x))
  ∧ (∀ a b : RotorState,
      trayStateOf false a b = .absent ∧ trayStateOf true .stalled .stalled = .failed
      ∧ (a = .slow ∨ a = .stalled ∨ b = .slow ∨ b = .stalled → ¬(a = .stalled ∧ b = .stalled) →
          trayStateOf true a b = .degraded)
      ∧ (a ≠ .slow → a ≠ .stalled → b ≠ .slow → b ≠ .stalled → trayStateOf true a b = .ok))
  ∧ (∀ (cv : Vector CurvePoint 4) (tc : Int),
      (cv[0]).temp < (cv[1]).temp → (cv[1]).temp < (cv[2]).temp → (cv[2]).temp < (cv[3]).temp →
      (tc ≤ (cv[0]).temp → curveValue cv tc = (cv[0]).duty)
      ∧ ((cv[3]).temp ≤ tc → curveValue cv tc = (cv[3]).duty)
      ∧ ∀ i j : Fin 4, j.val = i.val + 1 → (cv[i]).temp ≤ tc → tc < (cv[j]).temp →
        (cv[i]).duty ≤ (cv[j]).duty →
        (curveValue cv tc : Int) = (cv[i]).duty
          + ((tc - (cv[i]).temp) * ((cv[j]).duty - (cv[i]).duty)) / ((cv[j]).temp - (cv[i]).temp))
  ∧ (∀ s : State,
      (retarget s).fan.target = targetOf s.params s.fan
      ∧ (s.fan.tc = none → targetOf s.params s.fan = 100)
      ∧ ((∃ y : TrayIx, (s.fan.trays[y]).state = .degraded ∨ (s.fan.trays[y]).state = .failed
          ∨ ((s.fan.trays[y]).state = .absent ∧ (s.params.trays[y]).cooling ≠ 0)) →
        targetOf s.params s.fan = 100)
      ∧ ∀ tc, s.fan.tc = some tc → (∀ y : TrayIx, (s.fan.trays[y]).state = .ok
          ∨ ((s.fan.trays[y]).state = .absent ∧ (s.params.trays[y]).cooling = 0)) →
        targetOf s.params s.fan = max (curveValue s.params.curve tc) s.params.minDuty)
  ∧ ∀ (s : State) (r : RotorIx), running s →
    ((s.fan.rotors[r]).phase = .stopped →
      ∃ t, exec (.tachEdge r) s = .next t ∧ t.fan = s.fan)
    ∧ ((s.fan.rotors[r]).phase = .waiting → (s.fan.rotors[r]).periods < 65535 →
      ∃ t, exec (.tachEdge r) s = .next t
        ∧ t.fan.rotors[r] = { s.fan.rotors[r] with phase := .timing, edges := 0, periods := 0 })
    ∧ ((s.fan.rotors[r]).phase = .timing → (s.fan.rotors[r]).edges < 3 →
      ∃ t, exec (.tachEdge r) s = .next t
        ∧ t.fan.rotors[r] = { s.fan.rotors[r] with edges := (s.fan.rotors[r]).edges + 1 })
    ∧ ((s.fan.rotors[r]).phase = .timing → 3 ≤ (s.fan.rotors[r]).edges →
        (s.fan.rotors[r]).periods < 65535 →
      ∃ t, exec (.goodMeasurement r) s = .next t
        ∧ (t.fan.rotors[r]).phase = .timing ∧ (t.fan.rotors[r]).edges = 0
        ∧ (t.fan.rotors[r]).periods = 0
        ∧ (t.fan.rotors[r]).ring = joinRing
            (if (s.fan.rotors[r]).state = .stalled then [] else (s.fan.rotors[r]).ring)
            (if (s.fan.rotors[r]).periods < 400 then 30000
              else 12000000 / (s.fan.rotors[r]).periods)
        ∧ (t.fan.rotors[r]).filtered = (t.fan.rotors[r]).ring.sum / (t.fan.rotors[r]).ring.length
        ∧ (∀ x : Rotor, x = Rotor.judgeGood
              ((s.params.trays[trayOf r]).maxRpm * (s.fan.trays[trayOf r]).duty / 100)
              s.params.spinUpTicks { s.fan.rotors[r] with filtered := (t.fan.rotors[r]).filtered } →
            (t.fan.rotors[r]).state = x.state
            ∨ (x.state = .ok ∧ (t.fan.rotors[r]).state = .spinup))
        ∧ ((t.fan.rotors[r]).state = (s.fan.rotors[r]).state →
            (t.fan.trays[trayOf r]).state = (s.fan.trays[trayOf r]).state → roomFor s 2 →
            recordWords t (.tray (trayOf r)) = recordWords s (.tray (trayOf r))
            ∨ recordQueued t .status (.tray (trayOf r)))
        ∧ (t.fan.trays[trayOf r]).state = derivedTray t (trayOf r))
    ∧ ((s.fan.rotors[r]).phase ≠ .stopped → (s.fan.rotors[r]).periods = 65535 →
      ∃ t, exec (.stalledMeasurement r) s = .next t
        ∧ (t.fan.rotors[r]).phase = .waiting ∧ (t.fan.rotors[r]).periods = 0
        ∧ (t.fan.rotors[r]).ring = joinRing (s.fan.rotors[r]).ring 0
        ∧ ((s.fan.rotors[r]).state = .ok ∨ (s.fan.rotors[r]).state = .slow
            ∨ (s.fan.rotors[r]).state = .stalled → (t.fan.rotors[r]).state = .stalled)
        ∧ (t.fan.trays[trayOf r]).state = derivedTray t (trayOf r))

/-- SPIN_UP_EXPIRY, FALL_TIMER_EXPIRY, DERATE_TIMER_EXPIRY and RECOVERY_TIMER_EXPIRY, each when its timer has expired
(09 R151, R154, R155, R156, R158). Where the queue has room a duty that falls has its tray record queued as STATUS,
and a tray hold that is set the fan record, of the form of 12 section 12.7 (09 R160). A thermal hold set that changes,
by these or by the critical hold, is handed to the governor, and THERMAL_HOLD is asked for with the slots that join
and leave and its cause (09 R158, 12 section 12.8). -/
def Obligations.FanTimersExpire : Prop :=
  (∀ (s : State) (tc : Nat), tc = (match s.fan.tc with | none => 0 | some t => (BitVec.ofInt 8 t).toNat) →
      recordWords s .fan =
        [⟨s.regions.esa.base + 64, place 0 8 s.fan.target ||| place 8 8 tc ||| placeBit 16 s.fan.tc.isSome
            ||| placeBit 17 s.fan.critHold, 0b1111⟩,
         ⟨s.regions.esa.base + 68, place 0 8 s.fan.holdSet.toNat ||| placeBit 8 (s.fan.trays[0]).hold
            ||| placeBit 9 (s.fan.trays[1]).hold ||| placeBit 10 (s.fan.trays[2]).hold
            ||| placeBit 11 (s.fan.trays[3]).hold, 0b1111⟩])
  ∧ (∀ (p : Params) (f : Fans) (k : SlotIx), (holdSetOf p f).getLsbD k.val = true ↔
      f.critHold = true ∨ ∃ y : TrayIx, (f.trays[y]).hold = true ∧ (p.trays[y]).cooling.getLsbD k.val = true)
  ∧ (∀ (s : State) (tc : Option Int), (handFanTc tc s).fan.critHold ≠ s.fan.critHold →
      holdSetTaken s (handFanTc tc s) (if (handFanTc tc s).fan.critHold = true then .critical else .criticalEnd))
  ∧ ∀ s : State, running s →
    (∀ r : RotorIx, (s.fan.rotors[r]).spin = .expired → (s.fan.rotors[r]).state = .spinup →
      (s.fan.trays[trayOf r]).state = derivedTray s (trayOf r) →
      ∃ t, exec (.spinUpExpiry r) s = .next t
        ∧ t.fan.rotors[r] = { s.fan.rotors[r] with spin := .stopped, state := .ok, low := 0 })
    ∧ (∀ y : TrayIx, (s.fan.trays[y]).fall = .expired → s.fan.target < (s.fan.trays[y]).duty →
      ∃ t, exec (.fallTimerExpiry y) s = .next t
        ∧ (t.fan.trays[y]).duty = max s.fan.target ((s.fan.trays[y]).duty - 2)
        ∧ (t.fan.trays[y]).fall = (if s.fan.target < (s.fan.trays[y]).duty - 2 then .running 100
            else .stopped)
        ∧ (imagesApart s → roomFor s 2 → recordQueued t .status (.tray y))
        ∧ t.gov.duty[y] = (t.fan.trays[y]).duty)
    ∧ (∀ y : TrayIx, (s.fan.trays[y]).derate = .expired →
      ∃ t, exec (.derateTimerExpiry y) s = .next t
        ∧ (t.fan.trays[y]).hold = true ∧ (t.fan.trays[y]).derate = .stopped
        ∧ ((s.fan.trays[y]).hold = false → imagesApart s → roomFor s 2 → recordQueued t .status .fan)
        ∧ t.fan.holdSet = holdSetOf s.params t.fan ∧ holdSetTaken s t (.tray y))
    ∧ (∀ y : TrayIx, (s.fan.trays[y]).recovery = .expired →
      ∃ t, exec (.recoveryTimerExpiry y) s = .next t
        ∧ (t.fan.trays[y]).recovered = true ∧ (t.fan.trays[y]).recovery = .stopped
        ∧ t.fan.holdSet = holdSetOf s.params t.fan ∧ holdSetTaken s t .recovery
        ∧ ∀ x : TrayIx, (t.fan.trays[x]).hold = true ↔
            ((s.fan.trays[x]).hold = true
              ∧ ∃ z : TrayIx, (t.fan.trays[z]).recovered = false
                ∧ (s.params.trays[x]).cooling &&& (s.params.trays[z]).cooling ≠ 0))

/-- TRAY_INSERTION and TRAY_REMOVAL in SUPERVISING: the rotors, the tray state and the governor's presence (09 R147).
What a changed tray state brings, by these, by a measurement and by the end of spin-up: a tray that becomes bad,
FAILED or counted ABSENT, starts its derate timer, is no longer recovered and stops its recovery timer; one that stops
being bad starts its recovery timer with 500 ticks and stops its derate timer (09 R152, R155, R156); TRAY_STATE is
asked for with the two states and those of its rotors, and the TRAY source takes the condition (09 R152). When the
target duty changes, a lower duty rises to it at once, and a rise of 10 points or more spins up the rotors in SPINUP
or OK; a higher one starts a stopped fall timer with 100 ticks; the governor is handed the duties that change (09
R151, R153, R154, R159). -/
def Obligations.TrayLinesChangeTrays : Prop :=
  (∀ (p : Params) (x : TrayIx) (st : TrayState),
      (trayBad p x st = true ↔ st = .failed ∨ (st = .absent ∧ (p.trays[x]).cooling ≠ 0))
      ∧ (traySource x).val = 8 + x.val
      ∧ (trayBad p x st = true → traySeverity p x st = .major)
      ∧ (st = .degraded → traySeverity p x st = .minor)
      ∧ (st = .ok ∨ st = .absent ∧ (p.trays[x]).cooling = 0 → traySeverity p x st = .none))
  ∧ (∀ (y : Tray) (ticks : Nat),
      y.badness ticks false true = { y with recovered := false, recovery := .stopped, derate := .running ticks }
      ∧ y.badness ticks true false = { y with derate := .stopped, recovery := .running 500 }
      ∧ ∀ b, y.badness ticks b b = y)
  ∧ (∀ (y : Tray) (n : Nat),
      (y.duty < n → y.follow n = { y with duty := n, fall := .stopped })
      ∧ (y.duty = n → y.follow n = { y with fall := .stopped })
      ∧ (n < y.duty → y.fall = .stopped → y.follow n = { y with fall := .running 100 })
      ∧ (n < y.duty → y.fall ≠ .stopped → y.follow n = y))
  ∧ (∀ s : State, (targetOf s.params s.fan = s.fan.target → retarget s = s)
      ∧ (targetOf s.params s.fan ≠ s.fan.target →
        (retarget s).fan.target = targetOf s.params s.fan
        ∧ (∀ x : TrayIx, (retarget s).fan.trays[x] = (s.fan.trays[x]).follow (targetOf s.params s.fan))
        ∧ dutiesTaken s (retarget s) fun _ => True))
  ∧ (∀ (s : State) (tc : Option Int) (x : TrayIx), (handFanTc tc s).fan.trays[x]
      = if (handFanTc tc s).fan.target = s.fan.target then s.fan.trays[x]
        else (s.fan.trays[x]).follow (handFanTc tc s).fan.target)
  ∧ (∀ (s : State) (c : Instr) (own : RotorIx → Prop), running s →
      ((∃ r, (c = .tachEdge r ∨ c = .goodMeasurement r ∨ c = .stalledMeasurement r ∨ c = .spinUpExpiry r)
          ∧ ∀ q, own q ↔ q = r)
        ∨ ∃ y, (c = .trayInsertion y ∨ c = .trayRemoval y) ∧ ∀ q, own q ↔ trayOf q = y) →
      ∃ t, exec c s = .next t ∧ dutiesTaken s t (fun q => ¬own q)
        ∧ (∀ (x : TrayIx) (r0 r1 : RotorIx), r0.val = 2 * x.val → r1.val = 2 * x.val + 1 →
          (t.fan.trays[x]).state ≠ (s.fan.trays[x]).state →
          t.alm.conds[traySource x] = traySeverity s.params x (t.fan.trays[x]).state
          ∧ ∃ a b : RotorState, (a = (t.fan.rotors[r0]).state ∨ a = .ok ∧ (t.fan.rotors[r0]).state = .spinup)
            ∧ (b = (t.fan.rotors[r1]).state ∨ b = .ok ∧ (t.fan.rotors[r1]).state = .spinup)
            ∧ trayStateOf (t.pins.trayPres.getLsbD x.val) a b = (t.fan.trays[x]).state
            ∧ eventAsked s.ring t .trayState
                (place 0 8 x.val ||| place 8 8 (t.fan.trays[x]).state.code ||| place 16 8 (s.fan.trays[x]).state.code)
                (place 0 8 a.code ||| place 8 8 b.code))
        ∧ ∀ (x : TrayIx) (y : Tray), y = { s.fan.trays[x] with state := (t.fan.trays[x]).state } →
          t.fan.trays[x] = Tray.badness s.params.derateTicks (trayBad s.params x (s.fan.trays[x]).state)
            (trayBad s.params x (t.fan.trays[x]).state)
            (if t.fan.target = s.fan.target then y else y.follow t.fan.target))
  ∧ ∀ (s : State) (y : TrayIx), running s →
    (s.pins.trayPres.getLsbD y.val = false →
      ∃ t, exec (.trayInsertion y) s = .next t
        ∧ t.pins.trayPres.getLsbD y.val = true ∧ t.gov.trayPresent.getLsbD y.val = true
        ∧ (t.fan.trays[y]).state = .ok
        ∧ (trayBad s.params y (s.fan.trays[y]).state = true →
            (t.fan.trays[y]).recovery = .running 500 ∧ (t.fan.trays[y]).derate = .stopped)
        ∧ ∀ r : RotorIx, trayOf r = y → (t.fan.rotors[r]).state = .spinup
            ∧ (t.fan.rotors[r]).phase = .waiting ∧ (t.fan.rotors[r]).periods = 0
            ∧ (t.fan.rotors[r]).ring = [] ∧ (t.fan.rotors[r]).low = 0
            ∧ (t.fan.rotors[r]).spin = .running s.params.spinUpTicks)
    ∧ (s.pins.trayPres.getLsbD y.val = true →
      ∃ t, exec (.trayRemoval y) s = .next t
        ∧ t.pins.trayPres.getLsbD y.val = false ∧ t.gov.trayPresent.getLsbD y.val = false
        ∧ (t.fan.trays[y]).state = .absent
        ∧ ((s.params.trays[y]).cooling ≠ 0 → trayBad s.params y (s.fan.trays[y]).state = false →
            (t.fan.trays[y]).derate = .running s.params.derateTicks ∧ (t.fan.trays[y]).recovery = .stopped
            ∧ (t.fan.trays[y]).recovered = false)
        ∧ ∀ r : RotorIx, trayOf r = y → (t.fan.rotors[r]).state = .absent
            ∧ (t.fan.rotors[r]).phase = .stopped ∧ (t.fan.rotors[r]).ring = []
            ∧ (t.fan.rotors[r]).filtered = 0 ∧ (t.fan.rotors[r]).spin = .stopped)

/-- The critical hold follows Tc as handed, and a change of it recomputes the thermal hold set; an
unknown Tc also raises the target duty to 100, so that every fan is at full duty (09 R157). -/
def Obligations.CriticalHoldFollowsTc : Prop :=
  ∀ (s : State) (tc : Option Int),
    (∀ t, tc = some t → s.params.critical ≤ t → (handFanTc tc s).fan.critHold = true)
    ∧ (∀ t, tc = some t → t < s.params.critical - 5 → (handFanTc tc s).fan.critHold = false)
    ∧ (tc = none → (handFanTc tc s).fan.critHold = false ∧ (handFanTc tc s).fan.target = 100)
    ∧ (tc = none → dutiesAtTarget s → ∀ y : TrayIx, 100 ≤ ((handFanTc tc s).fan.trays[y]).duty)
    ∧ (∀ t, tc = some t → s.params.critical - 5 ≤ t → t ≤ s.params.critical - 1 →
        (handFanTc tc s).fan.critHold = s.fan.critHold)
    ∧ ((handFanTc tc s).fan.critHold ≠ s.fan.critHold →
        (handFanTc tc s).fan.holdSet = holdSetOf s.params (handFanTc tc s).fan)

/-! ### Modules and the link -/

/-- DEBOUNCED_CHANGE in SUPERVISING, when it has fallen due: the level changes, the module is judged, and
a presence that deasserts removes the report (10 R162, R163). Where the queue has room the module record, of the
form of 12 section 12.7, is queued as STATUS (10 R172); what a STALE report shows with no reading is a free value
(log 40). The state follows from the lines and the report by the table of 10 R163, and the severity of the MODULE
source from state, report and capacity by that of 10 R172; a changed state and a first judgement hand it to the
alarm unit. A changed state is handed to the governor, and MODULE_STATE asked for (10 R163). -/
def Obligations.DebouncedChangeIsJudged : Prop :=
  (∀ m : Module,
      (m.pres.level = false → m.derive = .absent)
      ∧ (m.pres.level = true → m.good.level = false → m.derive = .failed)
      ∧ (m.pres.level = true → m.good.level = true → ∀ flagged : Prop,
        (flagged ↔ (m.validity = .valid ∨ m.validity = .stale) ∧ ∃ r, m.reading = some r
          ∧ (r.inputLost = true ∨ r.overtemp = true ∨ r.fanFault = true)) →
        (flagged → m.derive = .degraded) ∧ (¬flagged → m.derive = .healthy)))
  ∧ (∀ (p : Params) (i : ModIx) (m : Module), (moduleSource i).val = 12 + i.val
      ∧ (m.judged = false → moduleSeverity p i m = .none)
      ∧ (m.judged = true →
        (m.state = .failed → moduleSeverity p i m = .major)
        ∧ (m.state = .degraded → moduleSeverity p i m = .minor)
        ∧ (m.state ≠ .failed → m.validity = .stale → moduleSeverity p i m = .minor)
        ∧ (m.state = .absent → (p.mods[i]).capacity ≠ 0 → moduleSeverity p i m = .minor)
        ∧ (m.state = .absent → (p.mods[i]).capacity = 0 → m.validity ≠ .stale → moduleSeverity p i m = .none)
        ∧ (m.state = .healthy → m.validity ≠ .stale → moduleSeverity p i m = .none)))
  ∧ (∀ (s : State) (i : ModIx), ∃ v : Word, recordWords s (.module i) =
      [⟨s.regions.esa.base + 4 * (26 + 2 * i.val), placeBit 0 (s.mdl.mods[i]).pres.level
          ||| placeBit 1 (s.mdl.mods[i]).good.level ||| place 4 4 (s.mdl.mods[i]).state.code
          ||| place 8 4 (s.mdl.mods[i]).validity.code ||| place 12 4 (s.mdl.mods[i]).last.code
          ||| place 16 8 (s.mdl.mods[i]).failures, 0b1111⟩,
       ⟨s.regions.esa.base + 4 * (27 + 2 * i.val), v, 0b1111⟩]
      ∧ (∀ r, (s.mdl.mods[i]).reading = some r → v = (place 0 16 r.power
          ||| place 16 8 (BitVec.ofInt 8 r.inlet).toNat ||| placeBit 24 r.inputLost ||| placeBit 25 r.overtemp
          ||| placeBit 26 r.fanFault))
      ∧ ((s.mdl.mods[i]).reading = none → (s.mdl.mods[i]).validity ≠ .stale → v = 0)
      ∧ (∀ b, 24 ≤ b → (s.mdl.mods[i]).reading = none → v.getLsbD b = false))
  ∧ [ModState.absent, .healthy, .degraded, .failed].map ModState.code = List.range 4
  ∧ [Validity.none, .valid, .stale].map Validity.code = List.range 3
  ∧ [LinkOutcome.none, .ok, .noAck, .badCheck, .arbLost, .deferred, .stuck].map LinkOutcome.code = List.range 7
  ∧ ∀ (s : State) (i : ModIx), running s →
    ((s.mdl.mods[i]).pres.due = true →
      ∃ t, exec (.debouncedChange i .pres) s = .next t
        ∧ (t.mdl.mods[i]).pres = ⟨!(s.mdl.mods[i]).pres.level, 0, false⟩
        ∧ (t.mdl.mods[i]).judged = true ∧ (t.mdl.mods[i]).state = (t.mdl.mods[i]).derive
        ∧ moduleStateTaken s t i
        ∧ ((s.mdl.mods[i]).judged = false ∨ (t.mdl.mods[i]).state ≠ (s.mdl.mods[i]).state →
            t.alm.conds[moduleSource i] = moduleSeverity s.params i t.mdl.mods[i])
        ∧ ((s.mdl.mods[i]).judged = true → (t.mdl.mods[i]).state = (s.mdl.mods[i]).state →
            t.alm.conds[moduleSource i] = s.alm.conds[moduleSource i])
        ∧ (imagesApart s → roomFor s 2 → recordQueued t .status (.module i))
        ∧ ((s.mdl.mods[i]).pres.level = true → (t.mdl.mods[i]).validity = .none
            ∧ (t.mdl.mods[i]).reading = none ∧ (t.mdl.mods[i]).failures = 0
            ∧ (t.mdl.mods[i]).last = .none))
    ∧ ((s.mdl.mods[i]).good.due = true →
      ∃ t, exec (.debouncedChange i .good) s = .next t
        ∧ (t.mdl.mods[i]).good = ⟨!(s.mdl.mods[i]).good.level, 0, false⟩
        ∧ (t.mdl.mods[i]).judged = true ∧ (t.mdl.mods[i]).state = (t.mdl.mods[i]).derive
        ∧ moduleStateTaken s t i
        ∧ ((s.mdl.mods[i]).judged = false ∨ (t.mdl.mods[i]).state ≠ (s.mdl.mods[i]).state →
            t.alm.conds[moduleSource i] = moduleSeverity s.params i t.mdl.mods[i])
        ∧ ((s.mdl.mods[i]).judged = true → (t.mdl.mods[i]).state = (s.mdl.mods[i]).state →
            t.alm.conds[moduleSource i] = s.alm.conds[moduleSource i])
        ∧ (imagesApart s → roomFor s 2 → recordQueued t .status (.module i))
        ∧ (t.mdl.mods[i]).validity = (s.mdl.mods[i]).validity
        ∧ (t.mdl.mods[i]).reading = (s.mdl.mods[i]).reading)

/-- POLL_TIMER_EXPIRY begins a round, whose first attempt is for the first fitted module, or makes one
due; POLL_ATTEMPT_START begins a waiting attempt's transaction on a free link with a start condition, also while
LINK_CLK is reported held low, which is the model's choice (log 38); LINK_BUSY_CHANGE sets the flag (10 R161, R164,
R165). The transaction, symbol by symbol (10 R165): a start; the address with write, the page byte 0 and the length
byte 5; a repeated start and the address with read; five bytes that the part reads; a stop. Each byte goes most
significant bit first with an acknowledge bit after it, which the part reads after a byte that it sends, and after one
that it reads sends low but for the fifth. A missing acknowledge is followed by the stop at once, and a loss of
arbitration, where the part has sent a 1 or means to send a repeated start, by nothing. The levels of the two lines in
each symbol: LINK_DATA changes while LINK_CLK is low, but in a condition. -/
def Obligations.PollRoundsBegin : Prop :=
  (∀ (ack : Bool) (b : Byte),
      sendByte ack b = [.send (b.getLsbD 7), .send (b.getLsbD 6), .send (b.getLsbD 5), .send (b.getLsbD 4),
        .send (b.getLsbD 3), .send (b.getLsbD 2), .send (b.getLsbD 1), .send (b.getLsbD 0), .receive ack]
      ∧ receiveByte ack b = [.receive (b.getLsbD 7), .receive (b.getLsbD 6), .receive (b.getLsbD 5),
        .receive (b.getLsbD 4), .receive (b.getLsbD 3), .receive (b.getLsbD 2), .receive (b.getLsbD 1),
        .receive (b.getLsbD 0), .send ack])
  ∧ (∀ (a : BitVec 7) (b : Fin 3 → Byte) (r lo hi inlet flags check : Byte) (sent : Nat → List LinkSymbol),
      b 0 = a ++ 0#1 → b 1 = 0 → b 2 = 5 → r = a ++ 1#1 →
      sent 0 = [.start] → sent 1 = sent 0 ++ sendByte false (b 0) → sent 2 = sent 1 ++ sendByte false (b 1) →
      sent 3 = sent 2 ++ sendByte false (b 2) → sent 4 = sent 3 ++ [.repeatedStart] ++ sendByte false r →
      linkTransaction a (.bytes lo hi inlet flags check) = sent 4 ++ receiveByte false lo ++ receiveByte false hi
          ++ receiveByte false inlet ++ receiveByte false flags ++ receiveByte true check ++ [.stop]
      ∧ linkTransaction a (.noAck 0) = sent 0 ++ sendByte true (b 0) ++ [.stop]
      ∧ linkTransaction a (.noAck 1) = sent 1 ++ sendByte true (b 1) ++ [.stop]
      ∧ linkTransaction a (.noAck 2) = sent 2 ++ sendByte true (b 2) ++ [.stop]
      ∧ linkTransaction a (.noAck 3) = sent 3 ++ [.repeatedStart] ++ sendByte true r ++ [.stop]
      ∧ linkLoss a .start = some [] ∧ linkLoss a .repeatedStart = some (sent 3 ++ [.lost])
      ∧ (∀ (i : Fin 3) (n : Fin 8), linkLoss a (.bit ⟨i.val, by omega⟩ n) =
          if (b i).getLsbD (7 - n.val) = true then
            some (sent i.val ++ (sendByte false (b i)).take n.val ++ [.lost])
          else none)
      ∧ ∀ n : Fin 8, linkLoss a (.bit 3 n) =
          if r.getLsbD (7 - n.val) = true then
            some (sent 3 ++ [.repeatedStart] ++ (sendByte false r).take n.val ++ [.lost])
          else none)
  ∧ (∀ d high : Bool,
      LinkSymbol.start.levels d = [⟨true, false⟩]
      ∧ LinkSymbol.repeatedStart.levels d = [⟨false, d⟩, ⟨false, true⟩, ⟨true, true⟩, ⟨true, false⟩]
      ∧ LinkSymbol.stop.levels d = [⟨false, d⟩, ⟨false, false⟩, ⟨true, false⟩, ⟨true, true⟩]
      ∧ (LinkSymbol.send high).levels d = [⟨false, d⟩, ⟨false, high⟩, ⟨true, high⟩]
      ∧ ∀ x : LinkSymbol, x = .receive high ∨ x = .pulse ∨ x = .lost →
          x.levels d = [⟨false, d⟩, ⟨false, true⟩, ⟨true, true⟩])
  ∧ (∀ (d : Bool) (x : LinkSymbol) (w : List LinkSymbol), linkLevels d [] = []
      ∧ linkLevels d (x :: w) = x.levels d ++ linkLevels (((x.levels d).getLast?.map (·.data)).getD d) w)
  ∧ ∀ s : State, s.pins.inReset = false →
    (s.mdl.pollTimer = .expired → s.mdl.round = none →
      ∃ t, exec .pollTimerExpiry s = .next t ∧ t.mdl.pollTimer = .running s.params.pollTicks
        ∧ t.mdl.roundDue = false ∧ t.mdl.wire = s.mdl.wire
        ∧ (∀ i : ModIx, (s.mdl.mods[i]).pres.level = true →
            (∀ j : ModIx, j < i → (s.mdl.mods[j]).pres.level = false) →
            t.mdl.round = some i ∧ t.mdl.attempt = some ⟨i, (s.params.mods[i]).address, false, false, false⟩)
        ∧ ((∀ i : ModIx, (s.mdl.mods[i]).pres.level = false) → t.mdl.round = none))
    ∧ (s.mdl.pollTimer = .expired → s.mdl.round ≠ none →
      ∃ t, exec .pollTimerExpiry s = .next t ∧ t.mdl.pollTimer = .stopped ∧ t.mdl.roundDue = true
        ∧ t.mdl.attempt = s.mdl.attempt ∧ t.mdl.wire = s.mdl.wire)
    ∧ (∀ a : Attempt, s.mdl.linkBusy = false → s.mdl.stuckDue = false → s.mdl.leftover = [] →
        s.mdl.attempt = some a → a.started = false →
      ∃ t, exec .pollAttemptStart s = .next t ∧ t.mdl.attempt = some { a with started := true }
        ∧ t.mdl.linkBusy = true ∧ t.mdl.wire = [.start])
    ∧ ∀ busy clkLow : Bool,
      ∃ t, exec (.linkBusyChange busy clkLow) s = .next t ∧ t.mdl.linkBusy = busy
        ∧ t.pins.linkClkLow = clkLow
        ∧ (s.mdl.stuckDue = false → t.mdl.attempt = s.mdl.attempt ∧ t.mdl.wire = s.mdl.wire)

/-- POLL_ATTEMPT_END, ARB_LOST and LINK_STUCK with an attempt of a round on the link: what the part has put on the link
(10 R165, R167, R168), report, failure count and last outcome of its module (10 R166, R167, R168), whose record is
queued as STATUS where the queue has room (10 R172), and the position of the round, which is finished but for a retry
(10 R164, R167). The check byte is a CRC-8 over the four bytes sent and the first four received, most significant bit
first (10 R166). An ARB_LOST at a bit that the part sends low cannot occur and changes nothing (log 4). A recovery that
is due is taken before any later event of the link (log 15), the attempts left over by closings end first, in turn,
each with its outcome discarded (10 R169; log 16), and a recovery ends the first of them alone, so that what waits
behind it goes on (log 41), the model's choices. The end of an attempt judges the module and hands its MODULE condition
to the alarm unit (10 R163, R172). An attempt whose outcome is discarded leaves its module's report (10 R169). -/
def Obligations.AttemptsAreJudged : Prop :=
  (∀ (b : Byte) (l : List Byte), crc8 [] = 0
    ∧ crc8 (l ++ [b]) = (List.range 8).foldl (fun (r : Byte) i =>
      (r <<< 1) ^^^ (if (r.getLsbD 7 ^^ b.getLsbD (7 - i)) = true then 0x07#8 else 0)) (crc8 l))
  ∧ (∀ clkLow : Bool, linkRecovery clkLow = if clkLow = true then [] else
      [.pulse, .pulse, .pulse, .pulse, .pulse, .pulse, .pulse, .pulse, .pulse, .stop])
  ∧ (∀ (s : State) (reply : PollReply) (point : LinkPoint), s.pins.inReset = false →
    (∀ a rest, s.mdl.leftover = a :: rest → a.started = true → s.mdl.stuckDue = false →
      (∃ t, exec (.pollAttemptEnd reply) s = .next t
        ∧ t.mdl = { s.mdl with leftover := rest, linkBusy := false, heldClock := 0, busyCount := 0
                               wire := linkTransaction a.address reply })
      ∧ ∀ w, linkLoss a.address point = some w → ∃ t, exec (.arbLost point) s = .next t
        ∧ t.mdl = { s.mdl with leftover := rest, heldClock := 0, wire := w })
    ∧ (s.mdl.stuckDue = true →
      exec (.pollAttemptEnd reply) s = .next (finish (attemptEnd reply (stuck s)))
      ∧ exec (.arbLost point) s = .next (finish (arbitrationLost point (stuck s)))
      ∧ exec .pollAttemptStart s = .next (finish (attemptStart (stuck s)))
      ∧ (∀ busy clkLow, exec (.linkBusyChange busy clkLow) s
          = .next (finish (linkChange busy clkLow (stuck s))))
      ∧ ∃ t, exec .linkStuck s = .next t ∧ t.mdl.stuckDue = false ∧ t.mdl.heldClock = 0
        ∧ t.mdl.busyCount = 0 ∧ t.mdl.linkBusy = (s.mdl.linkBusy && s.pins.linkClkLow)
        ∧ t.mdl.wire = linkRecovery s.pins.linkClkLow
        ∧ t.mdl.leftover = s.mdl.leftover.tail
        ∧ (s.mdl.leftover ≠ [] → t.mdl.mods = s.mdl.mods ∧ t.mdl.attempt = s.mdl.attempt
          ∧ t.mdl.round = s.mdl.round)))
  ∧ (∀ (s : State) (a : Attempt) (point : LinkPoint), s.pins.inReset = false → s.mdl.leftover = [] →
    s.mdl.attempt = some a → a.started = true → s.mdl.stuckDue = false → linkLoss a.address point = none →
    ∃ t, exec (.arbLost point) s = .next t ∧ t.mdl = s.mdl)
  ∧ (∀ (s : State) (a : Attempt) (i : ModIx) (reply : PollReply) (point : LinkPoint), s.pins.inReset = false →
    s.mdl.leftover = [] → s.mdl.attempt = some a → a.module = i → a.discard = true →
    ∀ kept : State → Prop, (∀ t, kept t ↔ (t.mdl.mods[i]).validity = (s.mdl.mods[i]).validity
        ∧ (t.mdl.mods[i]).failures = (s.mdl.mods[i]).failures ∧ (t.mdl.mods[i]).last = (s.mdl.mods[i]).last
        ∧ (t.mdl.mods[i]).reading = (s.mdl.mods[i]).reading) →
    (a.started = true → s.mdl.stuckDue = false →
      (∃ t, exec (.pollAttemptEnd reply) s = .next t ∧ kept t ∧ positionFinished s t i
        ∧ t.mdl.wire = linkTransaction a.address reply)
      ∧ ∀ w, linkLoss a.address point = some w → ∃ t, exec (.arbLost point) s = .next t ∧ kept t
        ∧ t.mdl.wire = w
        ∧ (a.retry = true ∨ (s.mdl.mods[i]).pres.level = false → positionFinished s t i)
        ∧ (a.retry = false → (s.mdl.mods[i]).pres.level = true →
            t.mdl.attempt = some (freshAttempt s.params i true) ∧ t.mdl.round = s.mdl.round))
    ∧ (s.mdl.stuckDue = true → ∃ t, exec .linkStuck s = .next t ∧ kept t ∧ positionFinished s t i))
  ∧ ∀ (s : State) (a : Attempt) (i : ModIx), s.pins.inReset = false → s.mdl.leftover = [] →
    s.mdl.attempt = some a → a.module = i → a.discard = false →
    (a.started = true → s.mdl.stuckDue = false →
      (∀ lo hi inlet flags chk : Byte,
        crc8 [a.address ++ 0#1, 0, 5, a.address ++ 1#1, lo, hi, inlet, flags] = chk →
        ∃ t, exec (.pollAttemptEnd (.bytes lo hi inlet flags chk)) s = .next t
          ∧ (t.mdl.mods[i]).validity = .valid ∧ (t.mdl.mods[i]).failures = 0
          ∧ (t.mdl.mods[i]).last = .ok ∧ judgedAndHanded s t i
          ∧ (imagesApart s → roomFor s 2 → recordQueued t .status (.module i))
          ∧ (t.mdl.mods[i]).reading = some ⟨lo.toNat + 256 * hi.toNat, inlet.toInt,
              flags.getLsbD 0, flags.getLsbD 1, flags.getLsbD 2⟩
          ∧ positionFinished s t i ∧ t.mdl.linkBusy = false
          ∧ t.mdl.wire = linkTransaction a.address (.bytes lo hi inlet flags chk))
      ∧ (∀ reply o, ((∃ byte, reply = .noAck byte) ∧ o = .noAck ∨ ∃ lo hi inlet flags chk,
          reply = .bytes lo hi inlet flags chk ∧ o = .badCheck
          ∧ crc8 [a.address ++ 0#1, 0, 5, a.address ++ 1#1, lo, hi, inlet, flags] ≠ chk) →
        ∃ t, exec (.pollAttemptEnd reply) s = .next t ∧ attemptFailed s t i o ∧ t.mdl.linkBusy = false
          ∧ t.mdl.wire = linkTransaction a.address reply)
      ∧ ∀ point w, linkLoss a.address point = some w →
        (a.retry = false → (s.mdl.mods[i]).pres.level = true →
          ∃ t, exec (.arbLost point) s = .next t ∧ (t.mdl.mods[i]).last = .arbLost
            ∧ (roomFor s 2 → recordQueued t .status (.module i))
            ∧ t.mdl.attempt = some ⟨i, (s.params.mods[i]).address, true, false, false⟩
            ∧ t.mdl.round = s.mdl.round ∧ t.mdl.wire = w ∧ t.mdl.linkBusy = s.mdl.linkBusy
            ∧ (t.mdl.mods[i]).failures = (s.mdl.mods[i]).failures
            ∧ (t.mdl.mods[i]).validity = (s.mdl.mods[i]).validity)
        ∧ (a.retry = true →
          ∃ t, exec (.arbLost point) s = .next t ∧ (t.mdl.mods[i]).last = .deferred
            ∧ (imagesApart s → roomFor s 2 → recordQueued t .status (.module i))
            ∧ (t.mdl.mods[i]).failures = (s.mdl.mods[i]).failures
            ∧ (t.mdl.mods[i]).validity = (s.mdl.mods[i]).validity
            ∧ positionFinished s t i ∧ t.mdl.wire = w ∧ t.mdl.linkBusy = s.mdl.linkBusy))
    ∧ (s.mdl.stuckDue = true → ∃ t, exec .linkStuck s = .next t ∧ attemptFailed s t i .stuck)

/-- Tc is the highest inlet temperature of the VALID reports, unknown without one, and a changed Tc goes to the
fan unit and the alarm unit (10 R170). The reported sum is the sum of their powers; overdraw is yes while it
exceeds the available power as handed, and a change of it goes to the alarm unit (10 R171). The end of an
attempt and a debounced change recompute both. Where the queue has room, a change of Tc, of the sum or of the
available power has the link record, of the form of 12 section 12.7, queued as STATUS (10 R172). -/
def Obligations.TemperatureAndOverdrawFollowReports : Prop :=
  (∀ (s : State) (tc : Nat), tc = (match s.mdl.tc with | none => 0 | some t => (BitVec.ofInt 8 t).toNat) →
      recordWords s .link =
        [⟨s.regions.esa.base + 136, place 0 8 tc ||| placeBit 8 s.mdl.tc.isSome ||| placeBit 9 s.mdl.overdraw,
          0b1111⟩,
         ⟨s.regions.esa.base + 140, BitVec.ofNat 32 s.mdl.reportedSum, 0b1111⟩,
         ⟨s.regions.esa.base + 144, BitVec.ofNat 32 s.mdl.available, 0b1111⟩])
  ∧ (∀ s : State, imagesApart s → roomFor s 3 →
      (tcOf s.mdl.mods ≠ s.mdl.tc → recordQueued (rejudgeTc s) .status .link)
      ∧ (reportedSumOf s.mdl.mods ≠ s.mdl.reportedSum → recordQueued (rejudgeSum s) .status .link)
      ∧ ∀ n, n ≠ s.mdl.available → recordQueued (handAvailable n s) .status .link)
  ∧ (∀ ms : Vector Module 4,
      ((∀ i : ModIx, (ms[i]).validity ≠ .valid) → tcOf ms = none ∧ reportedSumOf ms = 0)
      ∧ (∀ (i : ModIx) (r : Reading), (ms[i]).validity = .valid → (ms[i]).reading = some r →
          ∃ t, tcOf ms = some t ∧ r.inlet ≤ t)
      ∧ (∀ t, tcOf ms = some t →
          ∃ (i : ModIx) (r : Reading), (ms[i]).validity = .valid ∧ (ms[i]).reading = some r ∧ r.inlet = t)
      ∧ reportedSumOf ms = ((List.finRange 4).map fun i : ModIx =>
          match (ms[i]).validity, (ms[i]).reading with
          | .valid, some r => r.power
          | _, _ => 0).sum)
  ∧ (∀ s : State,
      (tcOf s.mdl.mods = s.mdl.tc → rejudgeTc s = s)
      ∧ (tcOf s.mdl.mods ≠ s.mdl.tc → (rejudgeTc s).mdl.tc = tcOf s.mdl.mods
          ∧ (rejudgeTc s).fan.tc = tcOf s.mdl.mods ∧ (rejudgeTc s).alm.tc = tcOf s.mdl.mods
          ∧ (rejudgeTc s).alm.conds[thermalSource] = thermalSeverity s.params (tcOf s.mdl.mods))
      ∧ (rejudgeSum s).mdl.reportedSum = reportedSumOf s.mdl.mods
      ∧ (rejudgeSum s).mdl.overdraw = decide (s.mdl.available < reportedSumOf s.mdl.mods)
      ∧ (decide (s.mdl.available < reportedSumOf s.mdl.mods) ≠ s.mdl.overdraw →
          (rejudgeSum s).alm.inOverdraw = decide (s.mdl.available < reportedSumOf s.mdl.mods)
          ∧ (rejudgeSum s).alm.conds[budgetSource] = budgetSeverity (rejudgeSum s).alm)
      ∧ ∀ n, n ≠ s.mdl.available → (handAvailable n s).mdl.available = n
          ∧ (handAvailable n s).mdl.overdraw = decide (n < s.mdl.reportedSum))
  ∧ (∀ (p : Params) (tc : Int), thermalSeverity p none = .minor
      ∧ (p.critical ≤ tc → thermalSeverity p (some tc) = .critical)
      ∧ (tc < p.critical → p.warn ≤ tc → thermalSeverity p (some tc) = .major)
      ∧ (tc < p.critical → tc < p.warn → thermalSeverity p (some tc) = .none))
  ∧ (∀ (s : State) (a : Attempt) (reply : PollReply), s.pins.inReset = false → s.mdl.stuckDue = false →
      s.mdl.leftover = [] → s.mdl.attempt = some a → a.started = true → a.discard = false →
      ∃ t, exec (.pollAttemptEnd reply) s = .next t ∧ t.mdl.tc = tcOf t.mdl.mods
        ∧ t.mdl.reportedSum = reportedSumOf t.mdl.mods
        ∧ t.mdl.overdraw = decide (t.mdl.available < t.mdl.reportedSum)
        ∧ (s.fan.tc = s.mdl.tc → t.fan.tc = t.mdl.tc))
  ∧ ∀ (s : State) (i : ModIx) (line : ModLine), running s →
      (match line with | .pres => (s.mdl.mods[i]).pres.due | .good => (s.mdl.mods[i]).good.due) = true →
      ∃ t, exec (.debouncedChange i line) s = .next t ∧ t.mdl.tc = tcOf t.mdl.mods
        ∧ t.mdl.reportedSum = reportedSumOf t.mdl.mods
        ∧ (s.fan.tc = s.mdl.tc → t.fan.tc = t.mdl.tc)

/-! ### Alarms -/

/-- A changed condition raises, updates or begins to clear the source's entry (11 R175); CLEAR_TIMER_EXPIRY removes
the entry when its timer has expired, and INDICATOR_FLASH changes the flash phase over when it has run out (11 R176,
R179). ACK, the part not closing: the named entry's acknowledged flag is set, or every entry's for 255; no entry's
source, severity or place changes, and the record answers DONE with the source (11 R177). Where the queue has room,
the words of the list's image, of the form of 12 section 12.7, that an event changes are queued as STATUS (11 R180),
and the status word of an ACK with them (01 R20). A raised, changed or removed entry asks for ALARM_RAISED,
ALARM_CHANGED or ALARM_CLEARED with the source and the new and former severities (11 R175, R176). -/
def Obligations.AlarmListFollowsConditions : Prop :=
  (∀ s : State, (recordWords s .alarms).length = 41
      ∧ (recordWords s .alarms)[0]? = some ⟨s.regions.esa.base + 148, BitVec.ofNat 32 s.alm.list.length, 0b1111⟩
      ∧ ∀ j < 20,
        (recordWords s .alarms)[1 + 2 * j]? = some ⟨s.regions.esa.base + 4 * (38 + 2 * j),
          (match s.alm.list[j]? with
            | none => 0
            | some e => place 0 8 e.source.val ||| place 8 2 e.severity.code ||| placeBit 15 e.acked), 0b1111⟩
        ∧ (recordWords s .alarms)[2 + 2 * j]? = some ⟨s.regions.esa.base + 4 * (39 + 2 * j),
          (match s.alm.list[j]? with | none => 0 | some e => e.raised), 0b1111⟩)
  ∧ [Severity.none, .minor, .major, .critical].map Severity.code = List.range 4
  ∧ (∀ (s : State) (src : Source) (new : Severity), alarmsDistinct s → roomFor s 8 →
      ∀ w ∈ recordWords (setSource src new s) .alarms, w ∉ recordWords s .alarms →
        wordQueued (setSource src new s) .status w)
  ∧ (∀ (s : State) (src : Source) (new : Severity), s.alm.conds[src] ≠ new →
      (alarmsDistinct s → ∀ e ∈ s.alm.list, e.source = src → eventAsked s.ring (setSource src new s)
        .alarmChanged (place 0 8 src.val ||| place 8 8 new.code ||| place 16 8 e.severity.code) 0)
      ∧ ((∀ e ∈ s.alm.list, e.source ≠ src) → new ≠ .none → eventAsked s.ring (setSource src new s)
        .alarmRaised (place 0 8 src.val ||| place 8 8 new.code) 0)
      ∧ ((∀ e ∈ s.alm.list, e.source ≠ src) → new ≠ .none →
        (setSource src new s).alm.list = s.alm.list ++ [⟨src, new, s.time.seconds, false, .stopped⟩])
      ∧ ((∀ e ∈ s.alm.list, e.source ≠ src) → new = .none →
        (setSource src new s).alm.list = s.alm.list)
      ∧ ((∃ e ∈ s.alm.list, e.source = src) → new ≠ .none →
        (setSource src new s).alm.list = s.alm.list.map fun e =>
          if e.source = src then
            { e with severity := new, clear := .stopped
                     acked := e.acked && decide (new.code ≤ e.severity.code) }
          else e)
      ∧ ((∃ e ∈ s.alm.list, e.source = src) → new = .none →
        (setSource src new s).alm.list = s.alm.list.map fun e =>
          if e.source = src then { e with severity := .none, clear := .running 200 } else e))
  ∧ (∀ (s : State) (d : Side) (source : Byte) (tag : BitVec 16) (lock : Bool),
      activeSide s d → ccpWordAt s 12 → s.ldr.closing = none → s.ctl.alarmAck.state ≠ .running →
      (source = 255 ∨ ∃ e ∈ s.alm.list, e.source.val = source.toNat) →
      ∃ t, exec (.ack d source tag lock) s = .next t
        ∧ t.alm.list = s.alm.list.map (fun e =>
            if source = 255 ∨ e.source.val = source.toNat then { e with acked := true } else e)
        ∧ answered t.ctl.alarmAck .done (source.setWidth 16) ∧ t.mem = s.mem
        ∧ (imagesApart s → roomFor s (1 + s.alm.list.length) →
            recordQueued t .status (.ctlStatus .alarmAck)
            ∧ ∀ w ∈ recordWords t .alarms, w ∉ recordWords s .alarms → wordQueued t .status w))
  ∧ (∀ s : State, s.pins.inReset = false →
      (∀ src : Source, (∃ e ∈ s.alm.list, e.source = src) →
        (∀ e ∈ s.alm.list, e.source = src → e.clear = .expired) →
        ∃ t, exec (.clearTimerExpiry src) s = .next t
          ∧ t.alm.list = s.alm.list.filter (fun e => decide (e.source ≠ src)) ∧ t.mem = s.mem
          ∧ (alarmsDistinct s → ∀ e ∈ s.alm.list, e.source = src →
              eventAsked s.ring t .alarmCleared (place 0 8 src.val ||| place 16 8 e.severity.code) 0)
          ∧ (roomFor s (6 + 2 * s.alm.list.length) →
              ∀ w ∈ recordWords t .alarms, w ∉ recordWords s .alarms → wordQueued t .status w))
      ∧ (s.alm.flash = .expired →
        ∃ t, exec .indicatorFlash s = .next t ∧ t.alm.lit = !s.alm.lit
          ∧ t.alm.list = s.alm.list ∧ t.alm.pattern = s.alm.pattern
          ∧ (s.alm.pattern = .redFlash → t.alm.flash = .running 25)
          ∧ (s.alm.pattern = .amberFlash → t.alm.flash = .running 50)))

/-! ### What commands leave unchanged -/

/-- No command but the end of an access on the port changes a byte of table memory, and such an end stores
to the words it names and to no other byte. -/
def Obligations.TableMemoryFrame : Prop :=
  (∀ (i : Instr) (s t : State), portEnd i = false → exec i s = .next t →
      ∀ a, Mem.read t.mem a = Mem.read s.mem a)
  ∧ (∀ (i : Instr) (s t : State), portEnd i = true → exec i s = .next t →
      ∀ a, (∀ b ∈ storedWords s, a < b ∨ b + 4 ≤ a) → Mem.read t.mem a = Mem.read s.mem a)

/-- The fan, module, link and alarm commands leave mastership, the drop record, the buses, the time base,
the region map, the parameters, the grant slots, the live bank and generation, and the control records of
mastership, restart, acknowledgement and slots. -/
def Obligations.UnitCommandsFrame : Prop :=
  ∀ (i : Instr) (s t : State), exec i s = .next t →
    ((∃ r, i = .tachEdge r ∨ i = .goodMeasurement r ∨ i = .stalledMeasurement r ∨ i = .spinUpExpiry r)
      ∨ (∃ y, i = .fallTimerExpiry y ∨ i = .derateTimerExpiry y ∨ i = .recoveryTimerExpiry y
          ∨ i = .trayInsertion y ∨ i = .trayRemoval y)
      ∨ (∃ m l, i = .debouncedChange m l) ∨ i = .pollTimerExpiry ∨ i = .pollAttemptStart
      ∨ (∃ r, i = .pollAttemptEnd r) ∨ (∃ x, i = .arbLost x) ∨ i = .linkStuck
      ∨ (∃ b c, i = .linkBusyChange b c) ∨ (∃ x, i = .clearTimerExpiry x) ∨ i = .indicatorFlash) →
    t.mast = s.mast ∧ t.drop = s.drop ∧ t.bus = s.bus ∧ t.time = s.time ∧ t.regions = s.regions
      ∧ t.params = s.params ∧ t.lic.slots = s.lic.slots ∧ t.lic.base = s.lic.base
      ∧ t.zon.liveBank = s.zon.liveBank ∧ t.zon.liveGen = s.zon.liveGen
      ∧ t.ctl.mastership = s.ctl.mastership ∧ t.ctl.restart = s.ctl.restart
      ∧ t.ctl.alarmAck = s.ctl.alarmAck ∧ t.ctl.slots = s.ctl.slots
      ∧ t.ldr.op = s.ldr.op ∧ t.ldr.tvalid = s.ldr.tvalid ∧ t.mem = s.mem

/-- The bus commands that act on the ports, the mastership unit, the zoning unit, the alarm list and the
grant slots leave the fan unit, the lines, the time base, the region map and the parameters; those to the
ZONING, MASTERSHIP and ALARM_ACK records also leave the ports and the licences. The slot, RUN, BYPASS and
time commands leave the fan unit, the map, the parameters, the drop record, the buses and the live bank.
The end of an access leaves the lines and, from SUPERVISING to SUPERVISING, an access other than a read of
the loader, the fan unit, the time base, the map, the parameters and the base licences, and, where every write
held upstream is one through the edit window (the invariant of StepKeepsTablePathSound), the mastership unit. -/
def Obligations.BusLineAndPortCommandsFrame : Prop :=
  ∀ (i : Instr) (s t : State), exec i s = .next t →
    ((∃ d q w l, i = .desiredOn d q w l ∨ i = .desiredOff d q w l)
        ∨ (∃ d q c g l, i = .speedChange d q c g l) ∨ (∃ d w l, i = .heartbeat d w l)
        ∨ (∃ d v l, i = .consumerIndexWrite d v l) ∨ (∃ d o x l, i = .zewWrite d o x l)
        ∨ (∃ d a b l, i = .upstreamRead d a b l) ∨ (∃ d c w l, requestOf i = some (d, c, w, l)) →
      t.fan = s.fan ∧ t.pins = s.pins ∧ t.time = s.time ∧ t.regions = s.regions
        ∧ t.params = s.params ∧ t.mem = s.mem)
    ∧ (∀ d c w l, requestOf i = some (d, c, w, l) → c = .mastership ∨ c = .zoning ∨ c = .alarmAck →
        requestWordAt s c → t.gov = s.gov ∧ t.lic = s.lic ∧ t.mdl = s.mdl)
    ∧ ((∃ k, i = .slotPresAssert k ∨ i = .slotPresDeassert k)
        ∨ (∃ d, i = .runAssert d ∨ i = .runDeassert d ∨ i = .heartbeatExpiry d) ∨ i = .bypassAssert
        ∨ i = .bypassDeassert ∨ i = .hourTick ∨ i = .chassisSecond →
      t.fan = s.fan ∧ t.regions = s.regions ∧ t.params = s.params ∧ t.drop = s.drop ∧ t.bus = s.bus
        ∧ t.zon.liveBank = s.zon.liveBank ∧ t.zon.liveGen = s.zon.liveGen ∧ t.ldr.op = s.ldr.op
        ∧ t.mem = s.mem)
    ∧ (portEnd i = true → t.pins = s.pins
        ∧ (s.ldr.op = .supervising → t.ldr.op = .supervising → (∀ w, ¬reading s (some .loader) w) →
          t.fan = s.fan ∧ t.time = s.time ∧ t.regions = s.regions ∧ t.params = s.params
            ∧ t.lic.base = s.lic.base ∧ (heldInWindow s → t.mast = s.mast)))

/-! ### Invariants -/

/-- After reset: the part is TRANSPARENT with no master, an empty queue and an empty memory, and every
invariant below holds. -/
def Obligations.ResetIsSound : Prop :=
  State.reset.pending = [] ∧ State.reset.mem = [] ∧ State.reset.ldr.op = .transparent
    ∧ State.reset.mast.master = none ∧ State.reset.tw.queue = []
    ∧ memorySound State.reset ∧ queueBounded State.reset ∧ alarmsDistinct State.reset
    ∧ suspensionNamed State.reset ∧ dutiesAtTarget State.reset ∧ parkedWhenIdle State.reset
    ∧ servesItsOwner State.reset
    ∧ heldInWindow State.reset ∧ patternFollows State.reset ∧ governorSound State.reset
    ∧ unitsAtRest State.reset

/-- Every step keeps table memory in its canonical form. -/
def Obligations.StepKeepsMemorySound : Prop :=
  ∀ s t : State, memorySound s → step s = .next t → memorySound t

/-- Every step keeps the write queue within its sixteen places (03 R50), keeps a port that serves an access
from being parked, and owned by the requester that it serves (03 R43), and keeps every write that is held upstream
one through the edit window (01 R13). -/
def Obligations.StepKeepsTablePathSound : Prop :=
  (∀ s t : State, queueBounded s → step s = .next t → queueBounded t)
  ∧ (∀ s t : State, parkedWhenIdle s → step s = .next t → parkedWhenIdle t)
  ∧ (∀ s t : State, servesItsOwner s → step s = .next t → servesItsOwner t)
  ∧ ∀ s t : State, heldInWindow s → step s = .next t → heldInWindow t

/-- Every step keeps the alarm list free of two entries for one source (11 R175), the indicator's pattern the
one that the list calls for (11 R179), at most one zoning operation, in flight or suspended in a stage of a
commit (08 R128), every commanded duty at or above the target duty (09 R154), and outside SUPERVISING the units at
their power-on values (02 R24, R38, 10 R161). -/
def Obligations.StepKeepsUnitLaws : Prop :=
  (∀ s t : State, alarmsDistinct s → step s = .next t → alarmsDistinct t)
  ∧ (∀ s t : State, patternFollows s → step s = .next t → patternFollows t)
  ∧ (∀ s t : State, suspensionNamed s → step s = .next t → suspensionNamed t)
  ∧ (∀ s t : State, dutiesAtTarget s → step s = .next t → dutiesAtTarget t)
  ∧ ∀ s t : State, unitsAtRest s → step s = .next t → unitsAtRest t

/-- Every step keeps the governor's laws: the held list is that of 07 R108, the committed draw is the sum of the draws
of the ports that are ON and within the headroom (06 R98), and the pool assignment list holds only ON ports whose source
is POOL and whose group is not licensed (05 R75, R88, R89). -/
def Obligations.StepKeepsGovernorSound : Prop :=
  ∀ s t : State, governorSound s → step s = .next t → governorSound t
end

