-- ==== Sys2Proof/Laws/State.lean ====
section
/-! SUPPORT. One lemma per setter and field: what the field reads after the update; and the frame form of a state, in
which a chosen set of its parts is blanked out: two states with equal frame forms agree on every other part. -/

namespace Sys2Proof.Machine

variable (s : State)

/-! ### setPending -/

@[simp] theorem State.setPending_pending (x) : (s.setPending x).pending = x := rfl
@[simp] theorem State.setPending_mem (x) : (s.setPending x).mem = s.mem := rfl
@[simp] theorem State.setPending_pins (x) : (s.setPending x).pins = s.pins := rfl
@[simp] theorem State.setPending_ldr (x) : (s.setPending x).ldr = s.ldr := rfl
@[simp] theorem State.setPending_params (x) : (s.setPending x).params = s.params := rfl
@[simp] theorem State.setPending_regions (x) : (s.setPending x).regions = s.regions := rfl
@[simp] theorem State.setPending_time (x) : (s.setPending x).time = s.time := rfl
@[simp] theorem State.setPending_port (x) : (s.setPending x).port = s.port := rfl
@[simp] theorem State.setPending_tw (x) : (s.setPending x).tw = s.tw := rfl
@[simp] theorem State.setPending_bus (x) : (s.setPending x).bus = s.bus := rfl
@[simp] theorem State.setPending_drop (x) : (s.setPending x).drop = s.drop := rfl
@[simp] theorem State.setPending_ctl (x) : (s.setPending x).ctl = s.ctl := rfl
@[simp] theorem State.setPending_mast (x) : (s.setPending x).mast = s.mast := rfl
@[simp] theorem State.setPending_lic (x) : (s.setPending x).lic = s.lic := rfl
@[simp] theorem State.setPending_gov (x) : (s.setPending x).gov = s.gov := rfl
@[simp] theorem State.setPending_zon (x) : (s.setPending x).zon = s.zon := rfl
@[simp] theorem State.setPending_fan (x) : (s.setPending x).fan = s.fan := rfl
@[simp] theorem State.setPending_mdl (x) : (s.setPending x).mdl = s.mdl := rfl
@[simp] theorem State.setPending_alm (x) : (s.setPending x).alm = s.alm := rfl
@[simp] theorem State.setPending_ring (x) : (s.setPending x).ring = s.ring := rfl
@[simp] theorem State.setPending_self : s.setPending s.pending = s := rfl

/-! ### setMem -/

@[simp] theorem State.setMem_pending (x) : (s.setMem x).pending = s.pending := rfl
@[simp] theorem State.setMem_mem (x) : (s.setMem x).mem = x := rfl
@[simp] theorem State.setMem_pins (x) : (s.setMem x).pins = s.pins := rfl
@[simp] theorem State.setMem_ldr (x) : (s.setMem x).ldr = s.ldr := rfl
@[simp] theorem State.setMem_params (x) : (s.setMem x).params = s.params := rfl
@[simp] theorem State.setMem_regions (x) : (s.setMem x).regions = s.regions := rfl
@[simp] theorem State.setMem_time (x) : (s.setMem x).time = s.time := rfl
@[simp] theorem State.setMem_port (x) : (s.setMem x).port = s.port := rfl
@[simp] theorem State.setMem_tw (x) : (s.setMem x).tw = s.tw := rfl
@[simp] theorem State.setMem_bus (x) : (s.setMem x).bus = s.bus := rfl
@[simp] theorem State.setMem_drop (x) : (s.setMem x).drop = s.drop := rfl
@[simp] theorem State.setMem_ctl (x) : (s.setMem x).ctl = s.ctl := rfl
@[simp] theorem State.setMem_mast (x) : (s.setMem x).mast = s.mast := rfl
@[simp] theorem State.setMem_lic (x) : (s.setMem x).lic = s.lic := rfl
@[simp] theorem State.setMem_gov (x) : (s.setMem x).gov = s.gov := rfl
@[simp] theorem State.setMem_zon (x) : (s.setMem x).zon = s.zon := rfl
@[simp] theorem State.setMem_fan (x) : (s.setMem x).fan = s.fan := rfl
@[simp] theorem State.setMem_mdl (x) : (s.setMem x).mdl = s.mdl := rfl
@[simp] theorem State.setMem_alm (x) : (s.setMem x).alm = s.alm := rfl
@[simp] theorem State.setMem_ring (x) : (s.setMem x).ring = s.ring := rfl
@[simp] theorem State.setMem_self : s.setMem s.mem = s := rfl

/-! ### setPins -/

@[simp] theorem State.setPins_pending (x) : (s.setPins x).pending = s.pending := rfl
@[simp] theorem State.setPins_mem (x) : (s.setPins x).mem = s.mem := rfl
@[simp] theorem State.setPins_pins (x) : (s.setPins x).pins = x := rfl
@[simp] theorem State.setPins_ldr (x) : (s.setPins x).ldr = s.ldr := rfl
@[simp] theorem State.setPins_params (x) : (s.setPins x).params = s.params := rfl
@[simp] theorem State.setPins_regions (x) : (s.setPins x).regions = s.regions := rfl
@[simp] theorem State.setPins_time (x) : (s.setPins x).time = s.time := rfl
@[simp] theorem State.setPins_port (x) : (s.setPins x).port = s.port := rfl
@[simp] theorem State.setPins_tw (x) : (s.setPins x).tw = s.tw := rfl
@[simp] theorem State.setPins_bus (x) : (s.setPins x).bus = s.bus := rfl
@[simp] theorem State.setPins_drop (x) : (s.setPins x).drop = s.drop := rfl
@[simp] theorem State.setPins_ctl (x) : (s.setPins x).ctl = s.ctl := rfl
@[simp] theorem State.setPins_mast (x) : (s.setPins x).mast = s.mast := rfl
@[simp] theorem State.setPins_lic (x) : (s.setPins x).lic = s.lic := rfl
@[simp] theorem State.setPins_gov (x) : (s.setPins x).gov = s.gov := rfl
@[simp] theorem State.setPins_zon (x) : (s.setPins x).zon = s.zon := rfl
@[simp] theorem State.setPins_fan (x) : (s.setPins x).fan = s.fan := rfl
@[simp] theorem State.setPins_mdl (x) : (s.setPins x).mdl = s.mdl := rfl
@[simp] theorem State.setPins_alm (x) : (s.setPins x).alm = s.alm := rfl
@[simp] theorem State.setPins_ring (x) : (s.setPins x).ring = s.ring := rfl
@[simp] theorem State.setPins_self : s.setPins s.pins = s := rfl

/-! ### setLdr -/

@[simp] theorem State.setLdr_pending (x) : (s.setLdr x).pending = s.pending := rfl
@[simp] theorem State.setLdr_mem (x) : (s.setLdr x).mem = s.mem := rfl
@[simp] theorem State.setLdr_pins (x) : (s.setLdr x).pins = s.pins := rfl
@[simp] theorem State.setLdr_ldr (x) : (s.setLdr x).ldr = x := rfl
@[simp] theorem State.setLdr_params (x) : (s.setLdr x).params = s.params := rfl
@[simp] theorem State.setLdr_regions (x) : (s.setLdr x).regions = s.regions := rfl
@[simp] theorem State.setLdr_time (x) : (s.setLdr x).time = s.time := rfl
@[simp] theorem State.setLdr_port (x) : (s.setLdr x).port = s.port := rfl
@[simp] theorem State.setLdr_tw (x) : (s.setLdr x).tw = s.tw := rfl
@[simp] theorem State.setLdr_bus (x) : (s.setLdr x).bus = s.bus := rfl
@[simp] theorem State.setLdr_drop (x) : (s.setLdr x).drop = s.drop := rfl
@[simp] theorem State.setLdr_ctl (x) : (s.setLdr x).ctl = s.ctl := rfl
@[simp] theorem State.setLdr_mast (x) : (s.setLdr x).mast = s.mast := rfl
@[simp] theorem State.setLdr_lic (x) : (s.setLdr x).lic = s.lic := rfl
@[simp] theorem State.setLdr_gov (x) : (s.setLdr x).gov = s.gov := rfl
@[simp] theorem State.setLdr_zon (x) : (s.setLdr x).zon = s.zon := rfl
@[simp] theorem State.setLdr_fan (x) : (s.setLdr x).fan = s.fan := rfl
@[simp] theorem State.setLdr_mdl (x) : (s.setLdr x).mdl = s.mdl := rfl
@[simp] theorem State.setLdr_alm (x) : (s.setLdr x).alm = s.alm := rfl
@[simp] theorem State.setLdr_ring (x) : (s.setLdr x).ring = s.ring := rfl
@[simp] theorem State.setLdr_self : s.setLdr s.ldr = s := rfl

/-! ### setParams -/

@[simp] theorem State.setParams_pending (x) : (s.setParams x).pending = s.pending := rfl
@[simp] theorem State.setParams_mem (x) : (s.setParams x).mem = s.mem := rfl
@[simp] theorem State.setParams_pins (x) : (s.setParams x).pins = s.pins := rfl
@[simp] theorem State.setParams_ldr (x) : (s.setParams x).ldr = s.ldr := rfl
@[simp] theorem State.setParams_params (x) : (s.setParams x).params = x := rfl
@[simp] theorem State.setParams_regions (x) : (s.setParams x).regions = s.regions := rfl
@[simp] theorem State.setParams_time (x) : (s.setParams x).time = s.time := rfl
@[simp] theorem State.setParams_port (x) : (s.setParams x).port = s.port := rfl
@[simp] theorem State.setParams_tw (x) : (s.setParams x).tw = s.tw := rfl
@[simp] theorem State.setParams_bus (x) : (s.setParams x).bus = s.bus := rfl
@[simp] theorem State.setParams_drop (x) : (s.setParams x).drop = s.drop := rfl
@[simp] theorem State.setParams_ctl (x) : (s.setParams x).ctl = s.ctl := rfl
@[simp] theorem State.setParams_mast (x) : (s.setParams x).mast = s.mast := rfl
@[simp] theorem State.setParams_lic (x) : (s.setParams x).lic = s.lic := rfl
@[simp] theorem State.setParams_gov (x) : (s.setParams x).gov = s.gov := rfl
@[simp] theorem State.setParams_zon (x) : (s.setParams x).zon = s.zon := rfl
@[simp] theorem State.setParams_fan (x) : (s.setParams x).fan = s.fan := rfl
@[simp] theorem State.setParams_mdl (x) : (s.setParams x).mdl = s.mdl := rfl
@[simp] theorem State.setParams_alm (x) : (s.setParams x).alm = s.alm := rfl
@[simp] theorem State.setParams_ring (x) : (s.setParams x).ring = s.ring := rfl
@[simp] theorem State.setParams_self : s.setParams s.params = s := rfl

/-! ### setRegions -/

@[simp] theorem State.setRegions_pending (x) : (s.setRegions x).pending = s.pending := rfl
@[simp] theorem State.setRegions_mem (x) : (s.setRegions x).mem = s.mem := rfl
@[simp] theorem State.setRegions_pins (x) : (s.setRegions x).pins = s.pins := rfl
@[simp] theorem State.setRegions_ldr (x) : (s.setRegions x).ldr = s.ldr := rfl
@[simp] theorem State.setRegions_params (x) : (s.setRegions x).params = s.params := rfl
@[simp] theorem State.setRegions_regions (x) : (s.setRegions x).regions = x := rfl
@[simp] theorem State.setRegions_time (x) : (s.setRegions x).time = s.time := rfl
@[simp] theorem State.setRegions_port (x) : (s.setRegions x).port = s.port := rfl
@[simp] theorem State.setRegions_tw (x) : (s.setRegions x).tw = s.tw := rfl
@[simp] theorem State.setRegions_bus (x) : (s.setRegions x).bus = s.bus := rfl
@[simp] theorem State.setRegions_drop (x) : (s.setRegions x).drop = s.drop := rfl
@[simp] theorem State.setRegions_ctl (x) : (s.setRegions x).ctl = s.ctl := rfl
@[simp] theorem State.setRegions_mast (x) : (s.setRegions x).mast = s.mast := rfl
@[simp] theorem State.setRegions_lic (x) : (s.setRegions x).lic = s.lic := rfl
@[simp] theorem State.setRegions_gov (x) : (s.setRegions x).gov = s.gov := rfl
@[simp] theorem State.setRegions_zon (x) : (s.setRegions x).zon = s.zon := rfl
@[simp] theorem State.setRegions_fan (x) : (s.setRegions x).fan = s.fan := rfl
@[simp] theorem State.setRegions_mdl (x) : (s.setRegions x).mdl = s.mdl := rfl
@[simp] theorem State.setRegions_alm (x) : (s.setRegions x).alm = s.alm := rfl
@[simp] theorem State.setRegions_ring (x) : (s.setRegions x).ring = s.ring := rfl
@[simp] theorem State.setRegions_self : s.setRegions s.regions = s := rfl

/-! ### setTime -/

@[simp] theorem State.setTime_pending (x) : (s.setTime x).pending = s.pending := rfl
@[simp] theorem State.setTime_mem (x) : (s.setTime x).mem = s.mem := rfl
@[simp] theorem State.setTime_pins (x) : (s.setTime x).pins = s.pins := rfl
@[simp] theorem State.setTime_ldr (x) : (s.setTime x).ldr = s.ldr := rfl
@[simp] theorem State.setTime_params (x) : (s.setTime x).params = s.params := rfl
@[simp] theorem State.setTime_regions (x) : (s.setTime x).regions = s.regions := rfl
@[simp] theorem State.setTime_time (x) : (s.setTime x).time = x := rfl
@[simp] theorem State.setTime_port (x) : (s.setTime x).port = s.port := rfl
@[simp] theorem State.setTime_tw (x) : (s.setTime x).tw = s.tw := rfl
@[simp] theorem State.setTime_bus (x) : (s.setTime x).bus = s.bus := rfl
@[simp] theorem State.setTime_drop (x) : (s.setTime x).drop = s.drop := rfl
@[simp] theorem State.setTime_ctl (x) : (s.setTime x).ctl = s.ctl := rfl
@[simp] theorem State.setTime_mast (x) : (s.setTime x).mast = s.mast := rfl
@[simp] theorem State.setTime_lic (x) : (s.setTime x).lic = s.lic := rfl
@[simp] theorem State.setTime_gov (x) : (s.setTime x).gov = s.gov := rfl
@[simp] theorem State.setTime_zon (x) : (s.setTime x).zon = s.zon := rfl
@[simp] theorem State.setTime_fan (x) : (s.setTime x).fan = s.fan := rfl
@[simp] theorem State.setTime_mdl (x) : (s.setTime x).mdl = s.mdl := rfl
@[simp] theorem State.setTime_alm (x) : (s.setTime x).alm = s.alm := rfl
@[simp] theorem State.setTime_ring (x) : (s.setTime x).ring = s.ring := rfl
@[simp] theorem State.setTime_self : s.setTime s.time = s := rfl

/-! ### setPort -/

@[simp] theorem State.setPort_pending (x) : (s.setPort x).pending = s.pending := rfl
@[simp] theorem State.setPort_mem (x) : (s.setPort x).mem = s.mem := rfl
@[simp] theorem State.setPort_pins (x) : (s.setPort x).pins = s.pins := rfl
@[simp] theorem State.setPort_ldr (x) : (s.setPort x).ldr = s.ldr := rfl
@[simp] theorem State.setPort_params (x) : (s.setPort x).params = s.params := rfl
@[simp] theorem State.setPort_regions (x) : (s.setPort x).regions = s.regions := rfl
@[simp] theorem State.setPort_time (x) : (s.setPort x).time = s.time := rfl
@[simp] theorem State.setPort_port (x) : (s.setPort x).port = x := rfl
@[simp] theorem State.setPort_tw (x) : (s.setPort x).tw = s.tw := rfl
@[simp] theorem State.setPort_bus (x) : (s.setPort x).bus = s.bus := rfl
@[simp] theorem State.setPort_drop (x) : (s.setPort x).drop = s.drop := rfl
@[simp] theorem State.setPort_ctl (x) : (s.setPort x).ctl = s.ctl := rfl
@[simp] theorem State.setPort_mast (x) : (s.setPort x).mast = s.mast := rfl
@[simp] theorem State.setPort_lic (x) : (s.setPort x).lic = s.lic := rfl
@[simp] theorem State.setPort_gov (x) : (s.setPort x).gov = s.gov := rfl
@[simp] theorem State.setPort_zon (x) : (s.setPort x).zon = s.zon := rfl
@[simp] theorem State.setPort_fan (x) : (s.setPort x).fan = s.fan := rfl
@[simp] theorem State.setPort_mdl (x) : (s.setPort x).mdl = s.mdl := rfl
@[simp] theorem State.setPort_alm (x) : (s.setPort x).alm = s.alm := rfl
@[simp] theorem State.setPort_ring (x) : (s.setPort x).ring = s.ring := rfl
@[simp] theorem State.setPort_self : s.setPort s.port = s := rfl

/-! ### setTw -/

@[simp] theorem State.setTw_pending (x) : (s.setTw x).pending = s.pending := rfl
@[simp] theorem State.setTw_mem (x) : (s.setTw x).mem = s.mem := rfl
@[simp] theorem State.setTw_pins (x) : (s.setTw x).pins = s.pins := rfl
@[simp] theorem State.setTw_ldr (x) : (s.setTw x).ldr = s.ldr := rfl
@[simp] theorem State.setTw_params (x) : (s.setTw x).params = s.params := rfl
@[simp] theorem State.setTw_regions (x) : (s.setTw x).regions = s.regions := rfl
@[simp] theorem State.setTw_time (x) : (s.setTw x).time = s.time := rfl
@[simp] theorem State.setTw_port (x) : (s.setTw x).port = s.port := rfl
@[simp] theorem State.setTw_tw (x) : (s.setTw x).tw = x := rfl
@[simp] theorem State.setTw_bus (x) : (s.setTw x).bus = s.bus := rfl
@[simp] theorem State.setTw_drop (x) : (s.setTw x).drop = s.drop := rfl
@[simp] theorem State.setTw_ctl (x) : (s.setTw x).ctl = s.ctl := rfl
@[simp] theorem State.setTw_mast (x) : (s.setTw x).mast = s.mast := rfl
@[simp] theorem State.setTw_lic (x) : (s.setTw x).lic = s.lic := rfl
@[simp] theorem State.setTw_gov (x) : (s.setTw x).gov = s.gov := rfl
@[simp] theorem State.setTw_zon (x) : (s.setTw x).zon = s.zon := rfl
@[simp] theorem State.setTw_fan (x) : (s.setTw x).fan = s.fan := rfl
@[simp] theorem State.setTw_mdl (x) : (s.setTw x).mdl = s.mdl := rfl
@[simp] theorem State.setTw_alm (x) : (s.setTw x).alm = s.alm := rfl
@[simp] theorem State.setTw_ring (x) : (s.setTw x).ring = s.ring := rfl
@[simp] theorem State.setTw_self : s.setTw s.tw = s := rfl

/-! ### setBus -/

@[simp] theorem State.setBus_pending (x) : (s.setBus x).pending = s.pending := rfl
@[simp] theorem State.setBus_mem (x) : (s.setBus x).mem = s.mem := rfl
@[simp] theorem State.setBus_pins (x) : (s.setBus x).pins = s.pins := rfl
@[simp] theorem State.setBus_ldr (x) : (s.setBus x).ldr = s.ldr := rfl
@[simp] theorem State.setBus_params (x) : (s.setBus x).params = s.params := rfl
@[simp] theorem State.setBus_regions (x) : (s.setBus x).regions = s.regions := rfl
@[simp] theorem State.setBus_time (x) : (s.setBus x).time = s.time := rfl
@[simp] theorem State.setBus_port (x) : (s.setBus x).port = s.port := rfl
@[simp] theorem State.setBus_tw (x) : (s.setBus x).tw = s.tw := rfl
@[simp] theorem State.setBus_bus (x) : (s.setBus x).bus = x := rfl
@[simp] theorem State.setBus_drop (x) : (s.setBus x).drop = s.drop := rfl
@[simp] theorem State.setBus_ctl (x) : (s.setBus x).ctl = s.ctl := rfl
@[simp] theorem State.setBus_mast (x) : (s.setBus x).mast = s.mast := rfl
@[simp] theorem State.setBus_lic (x) : (s.setBus x).lic = s.lic := rfl
@[simp] theorem State.setBus_gov (x) : (s.setBus x).gov = s.gov := rfl
@[simp] theorem State.setBus_zon (x) : (s.setBus x).zon = s.zon := rfl
@[simp] theorem State.setBus_fan (x) : (s.setBus x).fan = s.fan := rfl
@[simp] theorem State.setBus_mdl (x) : (s.setBus x).mdl = s.mdl := rfl
@[simp] theorem State.setBus_alm (x) : (s.setBus x).alm = s.alm := rfl
@[simp] theorem State.setBus_ring (x) : (s.setBus x).ring = s.ring := rfl
@[simp] theorem State.setBus_self : s.setBus s.bus = s := rfl

/-! ### setDrop -/

@[simp] theorem State.setDrop_pending (x) : (s.setDrop x).pending = s.pending := rfl
@[simp] theorem State.setDrop_mem (x) : (s.setDrop x).mem = s.mem := rfl
@[simp] theorem State.setDrop_pins (x) : (s.setDrop x).pins = s.pins := rfl
@[simp] theorem State.setDrop_ldr (x) : (s.setDrop x).ldr = s.ldr := rfl
@[simp] theorem State.setDrop_params (x) : (s.setDrop x).params = s.params := rfl
@[simp] theorem State.setDrop_regions (x) : (s.setDrop x).regions = s.regions := rfl
@[simp] theorem State.setDrop_time (x) : (s.setDrop x).time = s.time := rfl
@[simp] theorem State.setDrop_port (x) : (s.setDrop x).port = s.port := rfl
@[simp] theorem State.setDrop_tw (x) : (s.setDrop x).tw = s.tw := rfl
@[simp] theorem State.setDrop_bus (x) : (s.setDrop x).bus = s.bus := rfl
@[simp] theorem State.setDrop_drop (x) : (s.setDrop x).drop = x := rfl
@[simp] theorem State.setDrop_ctl (x) : (s.setDrop x).ctl = s.ctl := rfl
@[simp] theorem State.setDrop_mast (x) : (s.setDrop x).mast = s.mast := rfl
@[simp] theorem State.setDrop_lic (x) : (s.setDrop x).lic = s.lic := rfl
@[simp] theorem State.setDrop_gov (x) : (s.setDrop x).gov = s.gov := rfl
@[simp] theorem State.setDrop_zon (x) : (s.setDrop x).zon = s.zon := rfl
@[simp] theorem State.setDrop_fan (x) : (s.setDrop x).fan = s.fan := rfl
@[simp] theorem State.setDrop_mdl (x) : (s.setDrop x).mdl = s.mdl := rfl
@[simp] theorem State.setDrop_alm (x) : (s.setDrop x).alm = s.alm := rfl
@[simp] theorem State.setDrop_ring (x) : (s.setDrop x).ring = s.ring := rfl
@[simp] theorem State.setDrop_self : s.setDrop s.drop = s := rfl

/-! ### setCtl -/

@[simp] theorem State.setCtl_pending (x) : (s.setCtl x).pending = s.pending := rfl
@[simp] theorem State.setCtl_mem (x) : (s.setCtl x).mem = s.mem := rfl
@[simp] theorem State.setCtl_pins (x) : (s.setCtl x).pins = s.pins := rfl
@[simp] theorem State.setCtl_ldr (x) : (s.setCtl x).ldr = s.ldr := rfl
@[simp] theorem State.setCtl_params (x) : (s.setCtl x).params = s.params := rfl
@[simp] theorem State.setCtl_regions (x) : (s.setCtl x).regions = s.regions := rfl
@[simp] theorem State.setCtl_time (x) : (s.setCtl x).time = s.time := rfl
@[simp] theorem State.setCtl_port (x) : (s.setCtl x).port = s.port := rfl
@[simp] theorem State.setCtl_tw (x) : (s.setCtl x).tw = s.tw := rfl
@[simp] theorem State.setCtl_bus (x) : (s.setCtl x).bus = s.bus := rfl
@[simp] theorem State.setCtl_drop (x) : (s.setCtl x).drop = s.drop := rfl
@[simp] theorem State.setCtl_ctl (x) : (s.setCtl x).ctl = x := rfl
@[simp] theorem State.setCtl_mast (x) : (s.setCtl x).mast = s.mast := rfl
@[simp] theorem State.setCtl_lic (x) : (s.setCtl x).lic = s.lic := rfl
@[simp] theorem State.setCtl_gov (x) : (s.setCtl x).gov = s.gov := rfl
@[simp] theorem State.setCtl_zon (x) : (s.setCtl x).zon = s.zon := rfl
@[simp] theorem State.setCtl_fan (x) : (s.setCtl x).fan = s.fan := rfl
@[simp] theorem State.setCtl_mdl (x) : (s.setCtl x).mdl = s.mdl := rfl
@[simp] theorem State.setCtl_alm (x) : (s.setCtl x).alm = s.alm := rfl
@[simp] theorem State.setCtl_ring (x) : (s.setCtl x).ring = s.ring := rfl
@[simp] theorem State.setCtl_self : s.setCtl s.ctl = s := rfl

/-! ### setMast -/

@[simp] theorem State.setMast_pending (x) : (s.setMast x).pending = s.pending := rfl
@[simp] theorem State.setMast_mem (x) : (s.setMast x).mem = s.mem := rfl
@[simp] theorem State.setMast_pins (x) : (s.setMast x).pins = s.pins := rfl
@[simp] theorem State.setMast_ldr (x) : (s.setMast x).ldr = s.ldr := rfl
@[simp] theorem State.setMast_params (x) : (s.setMast x).params = s.params := rfl
@[simp] theorem State.setMast_regions (x) : (s.setMast x).regions = s.regions := rfl
@[simp] theorem State.setMast_time (x) : (s.setMast x).time = s.time := rfl
@[simp] theorem State.setMast_port (x) : (s.setMast x).port = s.port := rfl
@[simp] theorem State.setMast_tw (x) : (s.setMast x).tw = s.tw := rfl
@[simp] theorem State.setMast_bus (x) : (s.setMast x).bus = s.bus := rfl
@[simp] theorem State.setMast_drop (x) : (s.setMast x).drop = s.drop := rfl
@[simp] theorem State.setMast_ctl (x) : (s.setMast x).ctl = s.ctl := rfl
@[simp] theorem State.setMast_mast (x) : (s.setMast x).mast = x := rfl
@[simp] theorem State.setMast_lic (x) : (s.setMast x).lic = s.lic := rfl
@[simp] theorem State.setMast_gov (x) : (s.setMast x).gov = s.gov := rfl
@[simp] theorem State.setMast_zon (x) : (s.setMast x).zon = s.zon := rfl
@[simp] theorem State.setMast_fan (x) : (s.setMast x).fan = s.fan := rfl
@[simp] theorem State.setMast_mdl (x) : (s.setMast x).mdl = s.mdl := rfl
@[simp] theorem State.setMast_alm (x) : (s.setMast x).alm = s.alm := rfl
@[simp] theorem State.setMast_ring (x) : (s.setMast x).ring = s.ring := rfl
@[simp] theorem State.setMast_self : s.setMast s.mast = s := rfl

/-! ### setLic -/

@[simp] theorem State.setLic_pending (x) : (s.setLic x).pending = s.pending := rfl
@[simp] theorem State.setLic_mem (x) : (s.setLic x).mem = s.mem := rfl
@[simp] theorem State.setLic_pins (x) : (s.setLic x).pins = s.pins := rfl
@[simp] theorem State.setLic_ldr (x) : (s.setLic x).ldr = s.ldr := rfl
@[simp] theorem State.setLic_params (x) : (s.setLic x).params = s.params := rfl
@[simp] theorem State.setLic_regions (x) : (s.setLic x).regions = s.regions := rfl
@[simp] theorem State.setLic_time (x) : (s.setLic x).time = s.time := rfl
@[simp] theorem State.setLic_port (x) : (s.setLic x).port = s.port := rfl
@[simp] theorem State.setLic_tw (x) : (s.setLic x).tw = s.tw := rfl
@[simp] theorem State.setLic_bus (x) : (s.setLic x).bus = s.bus := rfl
@[simp] theorem State.setLic_drop (x) : (s.setLic x).drop = s.drop := rfl
@[simp] theorem State.setLic_ctl (x) : (s.setLic x).ctl = s.ctl := rfl
@[simp] theorem State.setLic_mast (x) : (s.setLic x).mast = s.mast := rfl
@[simp] theorem State.setLic_lic (x) : (s.setLic x).lic = x := rfl
@[simp] theorem State.setLic_gov (x) : (s.setLic x).gov = s.gov := rfl
@[simp] theorem State.setLic_zon (x) : (s.setLic x).zon = s.zon := rfl
@[simp] theorem State.setLic_fan (x) : (s.setLic x).fan = s.fan := rfl
@[simp] theorem State.setLic_mdl (x) : (s.setLic x).mdl = s.mdl := rfl
@[simp] theorem State.setLic_alm (x) : (s.setLic x).alm = s.alm := rfl
@[simp] theorem State.setLic_ring (x) : (s.setLic x).ring = s.ring := rfl
@[simp] theorem State.setLic_self : s.setLic s.lic = s := rfl

/-! ### setGov -/

@[simp] theorem State.setGov_pending (x) : (s.setGov x).pending = s.pending := rfl
@[simp] theorem State.setGov_mem (x) : (s.setGov x).mem = s.mem := rfl
@[simp] theorem State.setGov_pins (x) : (s.setGov x).pins = s.pins := rfl
@[simp] theorem State.setGov_ldr (x) : (s.setGov x).ldr = s.ldr := rfl
@[simp] theorem State.setGov_params (x) : (s.setGov x).params = s.params := rfl
@[simp] theorem State.setGov_regions (x) : (s.setGov x).regions = s.regions := rfl
@[simp] theorem State.setGov_time (x) : (s.setGov x).time = s.time := rfl
@[simp] theorem State.setGov_port (x) : (s.setGov x).port = s.port := rfl
@[simp] theorem State.setGov_tw (x) : (s.setGov x).tw = s.tw := rfl
@[simp] theorem State.setGov_bus (x) : (s.setGov x).bus = s.bus := rfl
@[simp] theorem State.setGov_drop (x) : (s.setGov x).drop = s.drop := rfl
@[simp] theorem State.setGov_ctl (x) : (s.setGov x).ctl = s.ctl := rfl
@[simp] theorem State.setGov_mast (x) : (s.setGov x).mast = s.mast := rfl
@[simp] theorem State.setGov_lic (x) : (s.setGov x).lic = s.lic := rfl
@[simp] theorem State.setGov_gov (x) : (s.setGov x).gov = x := rfl
@[simp] theorem State.setGov_zon (x) : (s.setGov x).zon = s.zon := rfl
@[simp] theorem State.setGov_fan (x) : (s.setGov x).fan = s.fan := rfl
@[simp] theorem State.setGov_mdl (x) : (s.setGov x).mdl = s.mdl := rfl
@[simp] theorem State.setGov_alm (x) : (s.setGov x).alm = s.alm := rfl
@[simp] theorem State.setGov_ring (x) : (s.setGov x).ring = s.ring := rfl
@[simp] theorem State.setGov_self : s.setGov s.gov = s := rfl

/-! ### setZon -/

@[simp] theorem State.setZon_pending (x) : (s.setZon x).pending = s.pending := rfl
@[simp] theorem State.setZon_mem (x) : (s.setZon x).mem = s.mem := rfl
@[simp] theorem State.setZon_pins (x) : (s.setZon x).pins = s.pins := rfl
@[simp] theorem State.setZon_ldr (x) : (s.setZon x).ldr = s.ldr := rfl
@[simp] theorem State.setZon_params (x) : (s.setZon x).params = s.params := rfl
@[simp] theorem State.setZon_regions (x) : (s.setZon x).regions = s.regions := rfl
@[simp] theorem State.setZon_time (x) : (s.setZon x).time = s.time := rfl
@[simp] theorem State.setZon_port (x) : (s.setZon x).port = s.port := rfl
@[simp] theorem State.setZon_tw (x) : (s.setZon x).tw = s.tw := rfl
@[simp] theorem State.setZon_bus (x) : (s.setZon x).bus = s.bus := rfl
@[simp] theorem State.setZon_drop (x) : (s.setZon x).drop = s.drop := rfl
@[simp] theorem State.setZon_ctl (x) : (s.setZon x).ctl = s.ctl := rfl
@[simp] theorem State.setZon_mast (x) : (s.setZon x).mast = s.mast := rfl
@[simp] theorem State.setZon_lic (x) : (s.setZon x).lic = s.lic := rfl
@[simp] theorem State.setZon_gov (x) : (s.setZon x).gov = s.gov := rfl
@[simp] theorem State.setZon_zon (x) : (s.setZon x).zon = x := rfl
@[simp] theorem State.setZon_fan (x) : (s.setZon x).fan = s.fan := rfl
@[simp] theorem State.setZon_mdl (x) : (s.setZon x).mdl = s.mdl := rfl
@[simp] theorem State.setZon_alm (x) : (s.setZon x).alm = s.alm := rfl
@[simp] theorem State.setZon_ring (x) : (s.setZon x).ring = s.ring := rfl
@[simp] theorem State.setZon_self : s.setZon s.zon = s := rfl

/-! ### setFan -/

@[simp] theorem State.setFan_pending (x) : (s.setFan x).pending = s.pending := rfl
@[simp] theorem State.setFan_mem (x) : (s.setFan x).mem = s.mem := rfl
@[simp] theorem State.setFan_pins (x) : (s.setFan x).pins = s.pins := rfl
@[simp] theorem State.setFan_ldr (x) : (s.setFan x).ldr = s.ldr := rfl
@[simp] theorem State.setFan_params (x) : (s.setFan x).params = s.params := rfl
@[simp] theorem State.setFan_regions (x) : (s.setFan x).regions = s.regions := rfl
@[simp] theorem State.setFan_time (x) : (s.setFan x).time = s.time := rfl
@[simp] theorem State.setFan_port (x) : (s.setFan x).port = s.port := rfl
@[simp] theorem State.setFan_tw (x) : (s.setFan x).tw = s.tw := rfl
@[simp] theorem State.setFan_bus (x) : (s.setFan x).bus = s.bus := rfl
@[simp] theorem State.setFan_drop (x) : (s.setFan x).drop = s.drop := rfl
@[simp] theorem State.setFan_ctl (x) : (s.setFan x).ctl = s.ctl := rfl
@[simp] theorem State.setFan_mast (x) : (s.setFan x).mast = s.mast := rfl
@[simp] theorem State.setFan_lic (x) : (s.setFan x).lic = s.lic := rfl
@[simp] theorem State.setFan_gov (x) : (s.setFan x).gov = s.gov := rfl
@[simp] theorem State.setFan_zon (x) : (s.setFan x).zon = s.zon := rfl
@[simp] theorem State.setFan_fan (x) : (s.setFan x).fan = x := rfl
@[simp] theorem State.setFan_mdl (x) : (s.setFan x).mdl = s.mdl := rfl
@[simp] theorem State.setFan_alm (x) : (s.setFan x).alm = s.alm := rfl
@[simp] theorem State.setFan_ring (x) : (s.setFan x).ring = s.ring := rfl
@[simp] theorem State.setFan_self : s.setFan s.fan = s := rfl

/-! ### setMdl -/

@[simp] theorem State.setMdl_pending (x) : (s.setMdl x).pending = s.pending := rfl
@[simp] theorem State.setMdl_mem (x) : (s.setMdl x).mem = s.mem := rfl
@[simp] theorem State.setMdl_pins (x) : (s.setMdl x).pins = s.pins := rfl
@[simp] theorem State.setMdl_ldr (x) : (s.setMdl x).ldr = s.ldr := rfl
@[simp] theorem State.setMdl_params (x) : (s.setMdl x).params = s.params := rfl
@[simp] theorem State.setMdl_regions (x) : (s.setMdl x).regions = s.regions := rfl
@[simp] theorem State.setMdl_time (x) : (s.setMdl x).time = s.time := rfl
@[simp] theorem State.setMdl_port (x) : (s.setMdl x).port = s.port := rfl
@[simp] theorem State.setMdl_tw (x) : (s.setMdl x).tw = s.tw := rfl
@[simp] theorem State.setMdl_bus (x) : (s.setMdl x).bus = s.bus := rfl
@[simp] theorem State.setMdl_drop (x) : (s.setMdl x).drop = s.drop := rfl
@[simp] theorem State.setMdl_ctl (x) : (s.setMdl x).ctl = s.ctl := rfl
@[simp] theorem State.setMdl_mast (x) : (s.setMdl x).mast = s.mast := rfl
@[simp] theorem State.setMdl_lic (x) : (s.setMdl x).lic = s.lic := rfl
@[simp] theorem State.setMdl_gov (x) : (s.setMdl x).gov = s.gov := rfl
@[simp] theorem State.setMdl_zon (x) : (s.setMdl x).zon = s.zon := rfl
@[simp] theorem State.setMdl_fan (x) : (s.setMdl x).fan = s.fan := rfl
@[simp] theorem State.setMdl_mdl (x) : (s.setMdl x).mdl = x := rfl
@[simp] theorem State.setMdl_alm (x) : (s.setMdl x).alm = s.alm := rfl
@[simp] theorem State.setMdl_ring (x) : (s.setMdl x).ring = s.ring := rfl
@[simp] theorem State.setMdl_self : s.setMdl s.mdl = s := rfl

/-! ### setAlm -/

@[simp] theorem State.setAlm_pending (x) : (s.setAlm x).pending = s.pending := rfl
@[simp] theorem State.setAlm_mem (x) : (s.setAlm x).mem = s.mem := rfl
@[simp] theorem State.setAlm_pins (x) : (s.setAlm x).pins = s.pins := rfl
@[simp] theorem State.setAlm_ldr (x) : (s.setAlm x).ldr = s.ldr := rfl
@[simp] theorem State.setAlm_params (x) : (s.setAlm x).params = s.params := rfl
@[simp] theorem State.setAlm_regions (x) : (s.setAlm x).regions = s.regions := rfl
@[simp] theorem State.setAlm_time (x) : (s.setAlm x).time = s.time := rfl
@[simp] theorem State.setAlm_port (x) : (s.setAlm x).port = s.port := rfl
@[simp] theorem State.setAlm_tw (x) : (s.setAlm x).tw = s.tw := rfl
@[simp] theorem State.setAlm_bus (x) : (s.setAlm x).bus = s.bus := rfl
@[simp] theorem State.setAlm_drop (x) : (s.setAlm x).drop = s.drop := rfl
@[simp] theorem State.setAlm_ctl (x) : (s.setAlm x).ctl = s.ctl := rfl
@[simp] theorem State.setAlm_mast (x) : (s.setAlm x).mast = s.mast := rfl
@[simp] theorem State.setAlm_lic (x) : (s.setAlm x).lic = s.lic := rfl
@[simp] theorem State.setAlm_gov (x) : (s.setAlm x).gov = s.gov := rfl
@[simp] theorem State.setAlm_zon (x) : (s.setAlm x).zon = s.zon := rfl
@[simp] theorem State.setAlm_fan (x) : (s.setAlm x).fan = s.fan := rfl
@[simp] theorem State.setAlm_mdl (x) : (s.setAlm x).mdl = s.mdl := rfl
@[simp] theorem State.setAlm_alm (x) : (s.setAlm x).alm = x := rfl
@[simp] theorem State.setAlm_ring (x) : (s.setAlm x).ring = s.ring := rfl
@[simp] theorem State.setAlm_self : s.setAlm s.alm = s := rfl

/-! ### setRing -/

@[simp] theorem State.setRing_pending (x) : (s.setRing x).pending = s.pending := rfl
@[simp] theorem State.setRing_mem (x) : (s.setRing x).mem = s.mem := rfl
@[simp] theorem State.setRing_pins (x) : (s.setRing x).pins = s.pins := rfl
@[simp] theorem State.setRing_ldr (x) : (s.setRing x).ldr = s.ldr := rfl
@[simp] theorem State.setRing_params (x) : (s.setRing x).params = s.params := rfl
@[simp] theorem State.setRing_regions (x) : (s.setRing x).regions = s.regions := rfl
@[simp] theorem State.setRing_time (x) : (s.setRing x).time = s.time := rfl
@[simp] theorem State.setRing_port (x) : (s.setRing x).port = s.port := rfl
@[simp] theorem State.setRing_tw (x) : (s.setRing x).tw = s.tw := rfl
@[simp] theorem State.setRing_bus (x) : (s.setRing x).bus = s.bus := rfl
@[simp] theorem State.setRing_drop (x) : (s.setRing x).drop = s.drop := rfl
@[simp] theorem State.setRing_ctl (x) : (s.setRing x).ctl = s.ctl := rfl
@[simp] theorem State.setRing_mast (x) : (s.setRing x).mast = s.mast := rfl
@[simp] theorem State.setRing_lic (x) : (s.setRing x).lic = s.lic := rfl
@[simp] theorem State.setRing_gov (x) : (s.setRing x).gov = s.gov := rfl
@[simp] theorem State.setRing_zon (x) : (s.setRing x).zon = s.zon := rfl
@[simp] theorem State.setRing_fan (x) : (s.setRing x).fan = s.fan := rfl
@[simp] theorem State.setRing_mdl (x) : (s.setRing x).mdl = s.mdl := rfl
@[simp] theorem State.setRing_alm (x) : (s.setRing x).alm = s.alm := rfl
@[simp] theorem State.setRing_ring (x) : (s.setRing x).ring = x := rfl
@[simp] theorem State.setRing_self : s.setRing s.ring = s := rfl

/-! ### Frames -/

/-- The parts of the state. -/
inductive Part where
  | pending | mem | pins | ldr | params | regions | time | port | tw | bus | drop | ctl | mast | lic | gov | zon | fan | mdl | alm | ring
  deriving DecidableEq, Repr

/-- The state with the parts that `p` names blanked out. -/
def State.without (p : Part → Bool) (s : State) : State :=
  { pending := bif p .pending then [] else s.pending
    mem := bif p .mem then [] else s.mem
    pins := bif p .pins then Pins.reset else s.pins
    ldr := bif p .ldr then Loader.powerOn else s.ldr
    params := bif p .params then Params.none else s.params
    regions := bif p .regions then Regions.empty else s.regions
    time := bif p .time then TimeBase.powerOn else s.time
    port := bif p .port then PortArb.powerOn else s.port
    tw := bif p .tw then TableWriter.powerOn else s.tw
    bus := bif p .bus then Buses.powerOn else s.bus
    drop := bif p .drop then DropRecord.powerOn else s.drop
    ctl := bif p .ctl then Ctls.powerOn else s.ctl
    mast := bif p .mast then Mastership.powerOn else s.mast
    lic := bif p .lic then Licence.powerOn else s.lic
    gov := bif p .gov then Governor.powerOn else s.gov
    zon := bif p .zon then Zoning.powerOn else s.zon
    fan := bif p .fan then Fans.powerOn else s.fan
    mdl := bif p .mdl then Modules.powerOn else s.mdl
    alm := bif p .alm then Alarms.powerOn else s.alm
    ring := bif p .ring then Ring.powerOn else s.ring }

variable {s} {t : State} {p : Part → Bool}

@[simp] theorem State.setPending_without (x) (h : p .pending = true) : (s.setPending x).without p = s.without p := by
  simp [State.without, h]
@[simp] theorem State.setMem_without (x) (h : p .mem = true) : (s.setMem x).without p = s.without p := by
  simp [State.without, h]
@[simp] theorem State.setPins_without (x) (h : p .pins = true) : (s.setPins x).without p = s.without p := by
  simp [State.without, h]
@[simp] theorem State.setLdr_without (x) (h : p .ldr = true) : (s.setLdr x).without p = s.without p := by
  simp [State.without, h]
@[simp] theorem State.setParams_without (x) (h : p .params = true) : (s.setParams x).without p = s.without p := by
  simp [State.without, h]
@[simp] theorem State.setRegions_without (x) (h : p .regions = true) : (s.setRegions x).without p = s.without p := by
  simp [State.without, h]
@[simp] theorem State.setTime_without (x) (h : p .time = true) : (s.setTime x).without p = s.without p := by
  simp [State.without, h]
@[simp] theorem State.setPort_without (x) (h : p .port = true) : (s.setPort x).without p = s.without p := by
  simp [State.without, h]
@[simp] theorem State.setTw_without (x) (h : p .tw = true) : (s.setTw x).without p = s.without p := by
  simp [State.without, h]
@[simp] theorem State.setBus_without (x) (h : p .bus = true) : (s.setBus x).without p = s.without p := by
  simp [State.without, h]
@[simp] theorem State.setDrop_without (x) (h : p .drop = true) : (s.setDrop x).without p = s.without p := by
  simp [State.without, h]
@[simp] theorem State.setCtl_without (x) (h : p .ctl = true) : (s.setCtl x).without p = s.without p := by
  simp [State.without, h]
@[simp] theorem State.setMast_without (x) (h : p .mast = true) : (s.setMast x).without p = s.without p := by
  simp [State.without, h]
@[simp] theorem State.setLic_without (x) (h : p .lic = true) : (s.setLic x).without p = s.without p := by
  simp [State.without, h]
@[simp] theorem State.setGov_without (x) (h : p .gov = true) : (s.setGov x).without p = s.without p := by
  simp [State.without, h]
@[simp] theorem State.setZon_without (x) (h : p .zon = true) : (s.setZon x).without p = s.without p := by
  simp [State.without, h]
@[simp] theorem State.setFan_without (x) (h : p .fan = true) : (s.setFan x).without p = s.without p := by
  simp [State.without, h]
@[simp] theorem State.setMdl_without (x) (h : p .mdl = true) : (s.setMdl x).without p = s.without p := by
  simp [State.without, h]
@[simp] theorem State.setAlm_without (x) (h : p .alm = true) : (s.setAlm x).without p = s.without p := by
  simp [State.without, h]
@[simp] theorem State.setRing_without (x) (h : p .ring = true) : (s.setRing x).without p = s.without p := by
  simp [State.without, h]

theorem State.pending_of_without (h : t.without p = s.without p) (hp : p .pending = false) : t.pending = s.pending := by
  simpa [State.without, hp] using congrArg State.pending h
theorem State.mem_of_without (h : t.without p = s.without p) (hp : p .mem = false) : t.mem = s.mem := by
  simpa [State.without, hp] using congrArg State.mem h
theorem State.pins_of_without (h : t.without p = s.without p) (hp : p .pins = false) : t.pins = s.pins := by
  simpa [State.without, hp] using congrArg State.pins h
theorem State.ldr_of_without (h : t.without p = s.without p) (hp : p .ldr = false) : t.ldr = s.ldr := by
  simpa [State.without, hp] using congrArg State.ldr h
theorem State.params_of_without (h : t.without p = s.without p) (hp : p .params = false) : t.params = s.params := by
  simpa [State.without, hp] using congrArg State.params h
theorem State.regions_of_without (h : t.without p = s.without p) (hp : p .regions = false) : t.regions = s.regions := by
  simpa [State.without, hp] using congrArg State.regions h
theorem State.time_of_without (h : t.without p = s.without p) (hp : p .time = false) : t.time = s.time := by
  simpa [State.without, hp] using congrArg State.time h
theorem State.port_of_without (h : t.without p = s.without p) (hp : p .port = false) : t.port = s.port := by
  simpa [State.without, hp] using congrArg State.port h
theorem State.tw_of_without (h : t.without p = s.without p) (hp : p .tw = false) : t.tw = s.tw := by
  simpa [State.without, hp] using congrArg State.tw h
theorem State.bus_of_without (h : t.without p = s.without p) (hp : p .bus = false) : t.bus = s.bus := by
  simpa [State.without, hp] using congrArg State.bus h
theorem State.drop_of_without (h : t.without p = s.without p) (hp : p .drop = false) : t.drop = s.drop := by
  simpa [State.without, hp] using congrArg State.drop h
theorem State.ctl_of_without (h : t.without p = s.without p) (hp : p .ctl = false) : t.ctl = s.ctl := by
  simpa [State.without, hp] using congrArg State.ctl h
theorem State.mast_of_without (h : t.without p = s.without p) (hp : p .mast = false) : t.mast = s.mast := by
  simpa [State.without, hp] using congrArg State.mast h
theorem State.lic_of_without (h : t.without p = s.without p) (hp : p .lic = false) : t.lic = s.lic := by
  simpa [State.without, hp] using congrArg State.lic h
theorem State.gov_of_without (h : t.without p = s.without p) (hp : p .gov = false) : t.gov = s.gov := by
  simpa [State.without, hp] using congrArg State.gov h
theorem State.zon_of_without (h : t.without p = s.without p) (hp : p .zon = false) : t.zon = s.zon := by
  simpa [State.without, hp] using congrArg State.zon h
theorem State.fan_of_without (h : t.without p = s.without p) (hp : p .fan = false) : t.fan = s.fan := by
  simpa [State.without, hp] using congrArg State.fan h
theorem State.mdl_of_without (h : t.without p = s.without p) (hp : p .mdl = false) : t.mdl = s.mdl := by
  simpa [State.without, hp] using congrArg State.mdl h
theorem State.alm_of_without (h : t.without p = s.without p) (hp : p .alm = false) : t.alm = s.alm := by
  simpa [State.without, hp] using congrArg State.alm h
theorem State.ring_of_without (h : t.without p = s.without p) (hp : p .ring = false) : t.ring = s.ring := by
  simpa [State.without, hp] using congrArg State.ring h

/-- Blanking out in a fold of steps each of which keeps the frame form. -/
theorem foldl_without {α : Type} (f : State → α → State) (hf : ∀ s x, (f s x).without p = s.without p)
    (l : List α) (s : State) : (l.foldl f s).without p = s.without p := by
  induction l generalizing s with
  | nil => rfl
  | cons x l ih => rw [List.foldl_cons, ih, hf]

theorem foldl_without_fst {α β : Type} (f : State × β → α → State × β)
    (hf : ∀ a x, (f a x).1.without p = a.1.without p) (l : List α) (a : State × β) :
    (l.foldl f a).1.without p = a.1.without p := by
  induction l generalizing a with
  | nil => rfl
  | cons x l ih => rw [List.foldl_cons, ih, hf]

end Sys2Proof.Machine
end

