-- ==== Sys2Proof/Laws/Units.lean ====
section
/-! SUPPORT. The frames of the units' operations: each operation changes only the named parts of the state. -/

namespace Sys2Proof.Machine

set_option linter.unusedSimpArgs false
set_option linter.unusedVariables false
set_option linter.unusedTactic false

variable {p : Part → Bool}

/-! ### Shared operations -/

@[simp] theorem publish_without (c r) (s : State)
    (tw : p .tw = true) :
    (publish c r s).without p = s.without p := by
  simp [publish, tw]

@[simp] theorem publishIfChanged_without (r f) (s : State)
    (tw : p .tw = true) :
    (publishIfChanged r f s).without p = s.without p := by
  unfold publishIfChanged; split_ifs <;> simp [tw]

@[simp] theorem publishChanged_without (r b) (s : State)
    (tw : p .tw = true) :
    (publishChanged r b s).without p = s.without p := by
  simp [publishChanged, tw]

@[simp] theorem putNormal_without (o a v) (s : State)
    (tw : p .tw = true) :
    (putNormal o a v s).without p = s.without p := by
  simp [putNormal, tw]

@[simp] theorem askRead_without (o a) (s : State)
    (tw : p .tw = true) :
    (askRead o a s).without p = s.without p := by
  unfold askRead; (try dsimp only); split_ifs <;> simp [tw]

@[simp] theorem issueHead_without (s : State)
    (tw : p .tw = true) :
    (issueHead s).without p = s.without p := by
  unfold issueHead; (try dsimp only); repeat' split
  all_goals simp [tw]

@[simp] theorem dropReads_without (o) (s : State)
    (tw : p .tw = true) :
    (dropReads o s).without p = s.without p := by
  simp [dropReads, tw]

@[simp] theorem appendEvent_without (k a b) (s : State)
    (tw : p .tw = true) (ring : p .ring = true) :
    (appendEvent k a b s).without p = s.without p := by
  unfold appendEvent; (try dsimp only); split_ifs <;> simp [tw, ring]

@[simp] theorem setStatus_without (k c st o d) (s : State)
    (tw : p .tw = true) (ctl : p .ctl = true) :
    (setStatus k c st o d s).without p = s.without p := by
  simp [setStatus, tw, ctl]

@[simp] theorem refuse_without (c g r) (s : State)
    (tw : p .tw = true) (ctl : p .ctl = true) :
    (refuse c g r s).without p = s.without p := by
  simp [refuse, tw, ctl]

@[simp] theorem dropWrite_without (d a r) (s : State)
    (tw : p .tw = true) (drop : p .drop = true) :
    (dropWrite d a r s).without p = s.without p := by
  simp [dropWrite, tw, drop]

/-! ### Alarm unit -/

@[simp] theorem listChanged_without (b) (s : State)
    (tw : p .tw = true) (alm : p .alm = true) :
    (listChanged b s).without p = s.without p := by
  simp [listChanged, tw, alm]

@[simp] theorem listEffect_without (x v) (s : State)
    (tw : p .tw = true) (alm : p .alm = true) (ring : p .ring = true) :
    (listEffect x v s).without p = s.without p := by
  unfold listEffect; (try dsimp only); repeat' split
  all_goals simp [tw, alm, ring]

@[simp] theorem setSource_without (x v) (s : State)
    (tw : p .tw = true) (alm : p .alm = true) (ring : p .ring = true) :
    (setSource x v s).without p = s.without p := by
  unfold setSource; (try dsimp only); split_ifs <;> simp [tw, alm, ring]

@[simp] theorem handBudget_without (a b c) (s : State)
    (tw : p .tw = true) (alm : p .alm = true) (ring : p .ring = true) :
    (handBudget a b c s).without p = s.without p := by
  simp [handBudget, tw, alm, ring]

@[simp] theorem handOverdraw_without (o) (s : State)
    (tw : p .tw = true) (alm : p .alm = true) (ring : p .ring = true) :
    (handOverdraw o s).without p = s.without p := by
  simp [handOverdraw, tw, alm, ring]

@[simp] theorem handAlarmTc_without (o) (s : State)
    (tw : p .tw = true) (alm : p .alm = true) (ring : p .ring = true) :
    (handAlarmTc o s).without p = s.without p := by
  simp [handAlarmTc, tw, alm, ring]

@[simp] theorem clearEntry_without (x) (s : State)
    (tw : p .tw = true) (alm : p .alm = true) (ring : p .ring = true) :
    (clearEntry x s).without p = s.without p := by
  unfold clearEntry; (try dsimp only); repeat' split
  all_goals simp [tw, alm, ring]

@[simp] theorem flashPhase_without (s : State)
    (alm : p .alm = true) :
    (flashPhase s).without p = s.without p := by
  unfold flashPhase; (try dsimp only); split_ifs <;> simp [alm]

@[simp] theorem acknowledge_without (f) (s : State)
    (tw : p .tw = true) (alm : p .alm = true) :
    (acknowledge f s).without p = s.without p := by
  simp [acknowledge, tw, alm]

@[simp] theorem judgeOverdraw_without (s : State)
    (tw : p .tw = true) (mdl : p .mdl = true) (alm : p .alm = true) (ring : p .ring = true) :
    (judgeOverdraw s).without p = s.without p := by
  unfold judgeOverdraw; (try dsimp only); split_ifs <;> simp [tw, mdl, alm, ring]

@[simp] theorem handAvailable_without (n) (s : State)
    (tw : p .tw = true) (mdl : p .mdl = true) (alm : p .alm = true) (ring : p .ring = true) :
    (handAvailable n s).without p = s.without p := by
  unfold handAvailable; (try dsimp only); split_ifs <;> simp [tw, mdl, alm, ring]

/-! ### Port governor -/

@[simp] theorem recompute_without (s : State)
    (gov : p .gov = true) :
    (recompute s).without p = s.without p := by
  simp [recompute, gov]

@[simp] theorem setReason_without (q r) (s : State)
    (tw : p .tw = true) (gov : p .gov = true) :
    (setReason q r s).without p = s.without p := by
  unfold setReason; (try dsimp only); split_ifs <;> simp [tw, gov]

@[simp] theorem turnOff_without (q r) (s : State)
    (lic : p .lic = true) (gov : p .gov = true) :
    (turnOff q r s).without p = s.without p := by
  simp [turnOff, lic, gov]

@[simp] theorem turnOffAll_without (qs r) (s : State)
    (lic : p .lic = true) (gov : p .gov = true) :
    (turnOffAll qs r s).without p = s.without p := by
  exact foldl_without _ (fun s x => by simp [lic, gov]) _ _

@[simp] theorem publishPorts_without (c qs) (s : State)
    (tw : p .tw = true) :
    (publishPorts c qs s).without p = s.without p := by
  exact foldl_without _ (fun s x => by simp [tw]) _ _

@[simp] theorem holdHead_without (qs) (s : State)
    (gov : p .gov = true) :
    (holdHead qs s).without p = s.without p := by
  simp [holdHead, gov]

@[simp] theorem holdTail_without (qs) (s : State)
    (gov : p .gov = true) :
    (holdTail qs s).without p = s.without p := by
  simp [holdTail, gov]

@[simp] theorem unhold_without (f) (s : State)
    (gov : p .gov = true) :
    (unhold f s).without p = s.without p := by
  simp [unhold, gov]

@[simp] theorem shedOne_without (q) (s : State)
    (tw : p .tw = true) (lic : p .lic = true) (gov : p .gov = true) :
    (shedOne q s).without p = s.without p := by
  simp [shedOne, tw, lic, gov]

theorem shedStep_without (tw : p .tw = true) (lic : p .lic = true) (gov : p .gov = true) (a : State × Nat)
    (q) : (shedStep a q).1.without p = a.1.without p := by
  unfold shedStep; split_ifs <;> simp [tw, lic, gov]

@[simp] theorem shed_without (s : State)
    (tw : p .tw = true) (lic : p .lic = true) (gov : p .gov = true) (ring : p .ring = true) :
    (shed s).without p = s.without p := by
  unfold shed; dsimp only
  split_ifs <;> simp [tw, lic, gov, ring, foldl_without_fst _ (shedStep_without tw lic gov)]

@[simp] theorem admitPort_without (q) (s : State)
    (tw : p .tw = true) (lic : p .lic = true) (gov : p .gov = true) :
    (admitPort q s).without p = s.without p := by
  simp [admitPort, tw, lic, gov]

theorem walkStep_without (tw : p .tw = true) (lic : p .lic = true) (gov : p .gov = true) (a : State × Nat)
    (q) : (walkStep a q).1.without p = a.1.without p := by
  unfold walkStep; (try dsimp only); split_ifs <;> simp [tw, lic, gov]

@[simp] theorem admissionWalk_without (s : State)
    (tw : p .tw = true) (lic : p .lic = true) (gov : p .gov = true) (ring : p .ring = true) :
    (admissionWalk s).without p = s.without p := by
  unfold admissionWalk; dsimp only
  split_ifs <;> simp [tw, lic, gov, ring, foldl_without_fst _ (walkStep_without tw lic gov)]

@[simp] theorem handUnlicensed_without (s : State)
    (tw : p .tw = true) (lic : p .lic = true) (alm : p .alm = true) (ring : p .ring = true) :
    (handUnlicensed s).without p = s.without p := by
  unfold handUnlicensed; (try dsimp only); split_ifs <;> simp [tw, lic, alm, ring]

@[simp] theorem settleEnd_without (s : State)
    (tw : p .tw = true) (lic : p .lic = true) (gov : p .gov = true) (alm : p .alm = true)
    (ring : p .ring = true) :
    (settleEnd s).without p = s.without p := by
  simp [settleEnd, tw, lic, gov, alm, ring]

@[simp] theorem settle_without (s : State)
    (tw : p .tw = true) (lic : p .lic = true) (gov : p .gov = true) (alm : p .alm = true)
    (ring : p .ring = true) :
    (settle s).without p = s.without p := by
  simp [settle, tw, lic, gov, alm, ring]

@[simp] theorem recomputeAndSettle_without (s : State)
    (tw : p .tw = true) (lic : p .lic = true) (gov : p .gov = true) (mdl : p .mdl = true)
    (alm : p .alm = true) (ring : p .ring = true) :
    (recomputeAndSettle s).without p = s.without p := by
  simp [recomputeAndSettle, tw, lic, gov, mdl, alm, ring]

@[simp] theorem desiredBecomesOn_without (q) (s : State)
    (gov : p .gov = true) :
    (desiredBecomesOn q s).without p = s.without p := by
  unfold desiredBecomesOn; (try dsimp only); split_ifs <;> simp [gov]

@[simp] theorem desiredBecomesOff_without (q) (s : State)
    (tw : p .tw = true) (lic : p .lic = true) (gov : p .gov = true) :
    (desiredBecomesOff q s).without p = s.without p := by
  unfold desiredBecomesOff; (try dsimp only); split_ifs <;> simp [tw, lic, gov]

@[simp] theorem speedOfOnPort_without (q c) (s : State)
    (tw : p .tw = true) (lic : p .lic = true) (gov : p .gov = true) :
    (speedOfOnPort q c s).without p = s.without p := by
  unfold speedOfOnPort; (try dsimp only); split_ifs <;> simp [tw, lic, gov]

@[simp] theorem handPort_without (q d c) (s : State)
    (tw : p .tw = true) (lic : p .lic = true) (gov : p .gov = true) (mdl : p .mdl = true)
    (alm : p .alm = true) (ring : p .ring = true) :
    (handPort q d c s).without p = s.without p := by
  unfold handPort; (try dsimp only); split_ifs <;> simp [tw, lic, gov, mdl, alm, ring]

@[simp] theorem loseSlot_without (k) (s : State)
    (tw : p .tw = true) (lic : p .lic = true) (gov : p .gov = true) (mdl : p .mdl = true)
    (alm : p .alm = true) (ring : p .ring = true) :
    (loseSlot k s).without p = s.without p := by
  simp [loseSlot, tw, lic, gov, mdl, alm, ring, foldl_without]

@[simp] theorem gainSlot_without (k) (s : State)
    (tw : p .tw = true) (lic : p .lic = true) (gov : p .gov = true) (mdl : p .mdl = true)
    (alm : p .alm = true) (ring : p .ring = true) :
    (gainSlot k s).without p = s.without p := by
  unfold gainSlot; (try dsimp only); split_ifs <;> simp [tw, lic, gov, mdl, alm, ring, foldl_without]

@[simp] theorem handHoldSet_without (h) (s : State)
    (tw : p .tw = true) (lic : p .lic = true) (gov : p .gov = true) (alm : p .alm = true)
    (ring : p .ring = true) :
    (handHoldSet h s).without p = s.without p := by
  simp [handHoldSet, tw, lic, gov, alm, ring]

@[simp] theorem handModState_without (i m) (s : State)
    (tw : p .tw = true) (lic : p .lic = true) (gov : p .gov = true) (mdl : p .mdl = true)
    (alm : p .alm = true) (ring : p .ring = true) :
    (handModState i m s).without p = s.without p := by
  simp [handModState, tw, lic, gov, mdl, alm, ring]

@[simp] theorem handDuty_without (t d) (s : State)
    (tw : p .tw = true) (lic : p .lic = true) (gov : p .gov = true) (mdl : p .mdl = true)
    (alm : p .alm = true) (ring : p .ring = true) :
    (handDuty t d s).without p = s.without p := by
  simp [handDuty, tw, lic, gov, mdl, alm, ring]

@[simp] theorem handTray_without (t d) (s : State)
    (tw : p .tw = true) (lic : p .lic = true) (gov : p .gov = true) (mdl : p .mdl = true)
    (alm : p .alm = true) (ring : p .ring = true) :
    (handTray t d s).without p = s.without p := by
  simp [handTray, tw, lic, gov, mdl, alm, ring]

@[simp] theorem refreshSource_without (q) (s : State)
    (tw : p .tw = true) (gov : p .gov = true) :
    (refreshSource q s).without p = s.without p := by
  unfold refreshSource; (try dsimp only); split_ifs <;> simp [tw, gov]

/-! ### Licence unit -/

@[simp] theorem setSlot_without (k g) (s : State)
    (lic : p .lic = true) :
    (setSlot k g s).without p = s.without p := by
  simp [setSlot, lic]

@[simp] theorem startInstall_without (k) (s : State)
    (tw : p .tw = true) (ctl : p .ctl = true) (lic : p .lic = true) :
    (startInstall k s).without p = s.without p := by
  simp [startInstall, tw, ctl, lic]

@[simp] theorem rejectGrant_without (k o d) (s : State)
    (tw : p .tw = true) (ctl : p .ctl = true) (lic : p .lic = true) (ring : p .ring = true) :
    (rejectGrant k o d s).without p = s.without p := by
  simp [rejectGrant, tw, ctl, lic, ring]

@[simp] theorem takeGroups_without (f) (s : State)
    (tw : p .tw = true) (lic : p .lic = true) (gov : p .gov = true) :
    (takeGroups f s).without p = s.without p := by
  simp [takeGroups, tw, lic, gov, foldl_without]

@[simp] theorem publishSummary_without (s : State)
    (tw : p .tw = true) :
    (publishSummary s).without p = s.without p := by
  simp [publishSummary, tw]

@[simp] theorem acceptGrant_without (k g) (s : State)
    (tw : p .tw = true) (ctl : p .ctl = true) (lic : p .lic = true) (gov : p .gov = true)
    (alm : p .alm = true) (ring : p .ring = true) :
    (acceptGrant k g s).without p = s.without p := by
  unfold acceptGrant; (try dsimp only); repeat' split
  all_goals simp [tw, ctl, lic, gov, alm, ring]

@[simp] theorem judgeGrant_without (k b) (s : State)
    (tw : p .tw = true) (ctl : p .ctl = true) (lic : p .lic = true) (gov : p .gov = true)
    (alm : p .alm = true) (ring : p .ring = true) :
    (judgeGrant k b s).without p = s.without p := by
  unfold judgeGrant; (try dsimp only); repeat' split
  all_goals simp [tw, ctl, lic, gov, alm, ring]

@[simp] theorem installData_without (k w e) (s : State)
    (tw : p .tw = true) (ctl : p .ctl = true) (lic : p .lic = true) (gov : p .gov = true)
    (alm : p .alm = true) (ring : p .ring = true) :
    (installData k w e s).without p = s.without p := by
  unfold installData; (try dsimp only); split_ifs <;> simp [tw, ctl, lic, gov, alm, ring]

@[simp] theorem withdrawGroups_without (l) (s : State)
    (tw : p .tw = true) (lic : p .lic = true) (gov : p .gov = true) :
    (withdrawGroups l s).without p = s.without p := by
  simp [withdrawGroups, tw, lic, gov, foldl_without]

@[simp] theorem revokePool_without (s : State)
    (tw : p .tw = true) (lic : p .lic = true) (gov : p .gov = true) (alm : p .alm = true)
    (ring : p .ring = true) :
    (revokePool s).without p = s.without p := by
  unfold revokePool; (try dsimp only); split_ifs <;> simp [tw, lic, gov, alm, ring]

@[simp] theorem withdraw_without (b) (s : State)
    (tw : p .tw = true) (lic : p .lic = true) (gov : p .gov = true) (alm : p .alm = true)
    (ring : p .ring = true) :
    (withdraw b s).without p = s.without p := by
  simp [withdraw, tw, lic, gov, alm, ring]

@[simp] theorem removeGrant_without (k) (s : State)
    (tw : p .tw = true) (ctl : p .ctl = true) (lic : p .lic = true) (gov : p .gov = true)
    (alm : p .alm = true) (ring : p .ring = true) :
    (removeGrant k s).without p = s.without p := by
  unfold removeGrant; (try dsimp only); split_ifs <;> simp [tw, ctl, lic, gov, alm, ring]

@[simp] theorem hourAtSlot_without (k) (s : State)
    (tw : p .tw = true) (ctl : p .ctl = true) (lic : p .lic = true) (ring : p .ring = true) :
    (hourAtSlot s k).without p = s.without p := by
  unfold hourAtSlot; (try dsimp only); split_ifs <;> simp [tw, ctl, lic, ring]

@[simp] theorem hourAtLicence_without (s : State)
    (tw : p .tw = true) (ctl : p .ctl = true) (lic : p .lic = true) (gov : p .gov = true)
    (alm : p .alm = true) (ring : p .ring = true) :
    (hourAtLicence s).without p = s.without p := by
  unfold hourAtLicence; (try dsimp only); split_ifs <;> simp [tw, ctl, lic, gov, alm, ring, foldl_without]

/-! ### Zoning unit -/

@[simp] theorem publishZoning_without (s : State)
    (tw : p .tw = true) :
    (publishZoning s).without p = s.without p := by
  simp [publishZoning, tw]

@[simp] theorem zonAsk_without (s : State)
    (tw : p .tw = true) :
    (zonAsk s).without p = s.without p := by
  unfold zonAsk; (try dsimp only); split_ifs <;> simp [tw]

@[simp] theorem withdrawOperation_without (s : State)
    (tw : p .tw = true) :
    (withdrawOperation s).without p = s.without p := by
  unfold withdrawOperation; (try dsimp only); split_ifs <;> simp [tw]

@[simp] theorem queueInvalid_without (o n) (s : State)
    (tw : p .tw = true) :
    (queueInvalid o n s).without p = s.without p := by
  simp [queueInvalid, tw]

@[simp] theorem failOperation_without (o d) (s : State)
    (tw : p .tw = true) (ctl : p .ctl = true) (zon : p .zon = true) (ring : p .ring = true) :
    (failOperation o d s).without p = s.without p := by
  simp [failOperation, tw, ctl, zon, ring]

@[simp] theorem restartOperation_without (s : State)
    (tw : p .tw = true) (ctl : p .ctl = true) (zon : p .zon = true) :
    (restartOperation s).without p = s.without p := by
  simp [restartOperation, tw, ctl, zon]

@[simp] theorem noteLive_without (v) (s : State)
    (zon : p .zon = true) :
    (noteLive v s).without p = s.without p := by
  simp [noteLive, zon]

@[simp] theorem queueBank_without (b) (s : State)
    (tw : p .tw = true) (zon : p .zon = true) :
    (queueBank b s).without p = s.without p := by
  unfold queueBank; (try dsimp only); split_ifs <;> simp [tw, zon]

@[simp] theorem pumpWrites_without (n) (s : State)
    (tw : p .tw = true) (zon : p .zon = true) :
    (pumpWrites n s).without p = s.without p := by
  induction n generalizing s with
  | zero => rfl
  | succ n ih => unfold pumpWrites; split
                 · rfl
                 · (try dsimp only); split_ifs <;> simp [tw, zon, ih]

@[simp] theorem enterFlip_without (s : State)
    (tw : p .tw = true) (zon : p .zon = true) :
    (enterFlip s).without p = s.without p := by
  simp [enterFlip, tw, zon]

@[simp] theorem endMarking_without (s : State)
    (tw : p .tw = true) (zon : p .zon = true) :
    (endMarking s).without p = s.without p := by
  unfold endMarking; (try dsimp only); split_ifs <;> simp [tw, zon]

@[simp] theorem nextMark_without (s : State)
    (tw : p .tw = true) (ctl : p .ctl = true) (zon : p .zon = true) (ring : p .ring = true) :
    (nextMark s).without p = s.without p := by
  unfold nextMark; (try dsimp only); split_ifs <;> simp [tw, ctl, zon, ring]

@[simp] theorem startMarking_without (s : State)
    (tw : p .tw = true) (ctl : p .ctl = true) (zon : p .zon = true) (ring : p .ring = true) :
    (startMarking s).without p = s.without p := by
  simp [startMarking, tw, ctl, zon, ring]

@[simp] theorem endValidation_without (s : State)
    (tw : p .tw = true) (ctl : p .ctl = true) (zon : p .zon = true) (ring : p .ring = true) :
    (endValidation s).without p = s.without p := by
  unfold endValidation; (try dsimp only); split_ifs <;> simp [tw, ctl, zon, ring]

@[simp] theorem nextValidate_without (s : State)
    (tw : p .tw = true) (ctl : p .ctl = true) (zon : p .zon = true) (ring : p .ring = true) :
    (nextValidate s).without p = s.without p := by
  unfold nextValidate; (try dsimp only); split_ifs <;> simp [tw, ctl, zon, ring]

@[simp] theorem completeClone_without (s : State)
    (tw : p .tw = true) (ctl : p .ctl = true) (zon : p .zon = true) (ring : p .ring = true) :
    (completeClone s).without p = s.without p := by
  simp [completeClone, tw, ctl, zon, ring]

@[simp] theorem queueCloneHeaders_without (s : State)
    (tw : p .tw = true) (ctl : p .ctl = true) (zon : p .zon = true) (ring : p .ring = true) :
    (queueCloneHeaders s).without p = s.without p := by
  unfold queueCloneHeaders; (try dsimp only); split_ifs <;> simp [tw, ctl, zon, ring]

@[simp] theorem nextClone_without (s : State)
    (tw : p .tw = true) (ctl : p .ctl = true) (zon : p .zon = true) (ring : p .ring = true) :
    (nextClone s).without p = s.without p := by
  unfold nextClone; (try dsimp only); split_ifs <;> simp [tw, ctl, zon, ring]

@[simp] theorem afterWords_without (s : State)
    (tw : p .tw = true) (ctl : p .ctl = true) (zon : p .zon = true) (ring : p .ring = true) :
    (afterWords s).without p = s.without p := by
  unfold afterWords; (try dsimp only); repeat' split
  all_goals simp [tw, ctl, zon, ring]

@[simp] theorem pump_without (s : State)
    (tw : p .tw = true) (ctl : p .ctl = true) (zon : p .zon = true) (ring : p .ring = true) :
    (pump s).without p = s.without p := by
  simp [pump, tw, ctl, zon, ring]

@[simp] theorem writeBack_without (e) (s : State)
    (tw : p .tw = true) (ctl : p .ctl = true) (zon : p .zon = true) (ring : p .ring = true) :
    (writeBack e s).without p = s.without p := by
  simp [writeBack, tw, ctl, zon, ring]

@[simp] theorem entryRead_without (e) (s : State)
    (tw : p .tw = true) (ctl : p .ctl = true) (zon : p .zon = true) (ring : p .ring = true) :
    (entryRead e s).without p = s.without p := by
  unfold entryRead; (try dsimp only); split_ifs <;> simp [tw, ctl, zon, ring]

@[simp] theorem entryWord_without (w) (s : State)
    (tw : p .tw = true) (ctl : p .ctl = true) (zon : p .zon = true) (ring : p .ring = true) :
    (entryWord w s).without p = s.without p := by
  unfold entryWord; (try dsimp only); repeat' split
  all_goals simp [tw, ctl, zon, ring]

@[simp] theorem memberWord_without (e w) (s : State)
    (tw : p .tw = true) (ctl : p .ctl = true) (zon : p .zon = true) (ring : p .ring = true) :
    (memberWord e w s).without p = s.without p := by
  unfold memberWord; (try dsimp only); repeat' split
  all_goals simp [tw, ctl, zon, ring]

@[simp] theorem countWord_without (w) (s : State)
    (tw : p .tw = true) (ctl : p .ctl = true) (zon : p .zon = true) (ring : p .ring = true) :
    (countWord w s).without p = s.without p := by
  unfold countWord; (try dsimp only); split_ifs <;> simp [tw, ctl, zon, ring]

@[simp] theorem commitData_without (w e) (s : State)
    (tw : p .tw = true) (ctl : p .ctl = true) (zon : p .zon = true) (ring : p .ring = true) :
    (commitData w e s).without p = s.without p := by
  unfold commitData; (try dsimp only); repeat' split
  all_goals simp [tw, ctl, zon, ring]

@[simp] theorem cloneData_without (w e) (s : State)
    (tw : p .tw = true) (ctl : p .ctl = true) (zon : p .zon = true) (ring : p .ring = true) :
    (cloneData w e s).without p = s.without p := by
  unfold cloneData; (try dsimp only); split_ifs <;> simp [tw, ctl, zon, ring]

@[simp] theorem firstRead_without (s : State)
    (tw : p .tw = true) (zon : p .zon = true) :
    (firstRead s).without p = s.without p := by
  unfold firstRead; (try dsimp only); split_ifs <;> simp [tw, zon]

@[simp] theorem startOperation_without (o n) (s : State)
    (tw : p .tw = true) (ctl : p .ctl = true) (zon : p .zon = true) :
    (startOperation o n s).without p = s.without p := by
  simp [startOperation, tw, ctl, zon]

@[simp] theorem continueCommit_without (s : State)
    (tw : p .tw = true) (ctl : p .ctl = true) (zon : p .zon = true) (ring : p .ring = true) :
    (continueCommit s).without p = s.without p := by
  unfold continueCommit; (try dsimp only); split_ifs <;> simp [tw, ctl, zon, ring]

@[simp] theorem resumeCommit_without (s : State)
    (tw : p .tw = true) (ctl : p .ctl = true) (zon : p .zon = true) (ring : p .ring = true) :
    (resumeCommit s).without p = s.without p := by
  simp [resumeCommit, tw, ctl, zon, ring]

@[simp] theorem suspendCommit_without (g) (s : State)
    (tw : p .tw = true) (zon : p .zon = true) (ring : p .ring = true) :
    (suspendCommit g s).without p = s.without p := by
  simp [suspendCommit, tw, zon, ring]

@[simp] theorem masterChanged_without (g) (s : State)
    (tw : p .tw = true) (ctl : p .ctl = true) (zon : p .zon = true) (ring : p .ring = true) :
    (masterChanged g s).without p = s.without p := by
  unfold masterChanged; (try dsimp only); repeat' split
  all_goals simp [tw, ctl, zon, ring]

@[simp] theorem zoningRestart_without (s : State)
    (tw : p .tw = true) (ctl : p .ctl = true) (zon : p .zon = true) :
    (zoningRestart s).without p = s.without p := by
  unfold zoningRestart; (try dsimp only); repeat' split
  all_goals simp [tw, ctl, zon]

@[simp] theorem completeFlip_without (s : State)
    (tw : p .tw = true) (ctl : p .ctl = true) (zon : p .zon = true) (ring : p .ring = true) :
    (completeFlip s).without p = s.without p := by
  simp [completeFlip, tw, ctl, zon, ring]

/-! ### Fan unit -/

@[simp] theorem setRotor_without (r x) (s : State)
    (fan : p .fan = true) :
    (setRotor r x s).without p = s.without p := by
  simp [setRotor, fan]

@[simp] theorem setTray_without (t x) (s : State)
    (fan : p .fan = true) :
    (setTray t x s).without p = s.without p := by
  simp [setTray, fan]

@[simp] theorem publishTray_without (t) (s : State)
    (tw : p .tw = true) :
    (publishTray t s).without p = s.without p := by
  simp [publishTray, tw]

@[simp] theorem publishFan_without (s : State)
    (tw : p .tw = true) :
    (publishFan s).without p = s.without p := by
  simp [publishFan, tw]

@[simp] theorem respin_without (r) (s : State)
    (fan : p .fan = true) :
    (respin r s).without p = s.without p := by
  unfold respin; (try dsimp only); split_ifs <;> simp [fan]

@[simp] theorem applyTarget_without (t) (s : State)
    (tw : p .tw = true) (fan : p .fan = true) :
    (applyTarget s t).without p = s.without p := by
  unfold applyTarget; (try dsimp only); split_ifs <;> simp [tw, fan]

@[simp] theorem handDuties_without (b) (s : State)
    (tw : p .tw = true) (lic : p .lic = true) (gov : p .gov = true) (mdl : p .mdl = true)
    (alm : p .alm = true) (ring : p .ring = true) :
    (handDuties b s).without p = s.without p := by
  unfold handDuties
  exact foldl_without _ (fun s x => by (try dsimp only); split_ifs <;> simp [tw, lic, gov, mdl, alm, ring]) _ _

@[simp] theorem retarget_without (s : State)
    (tw : p .tw = true) (lic : p .lic = true) (gov : p .gov = true) (fan : p .fan = true)
    (mdl : p .mdl = true) (alm : p .alm = true) (ring : p .ring = true) :
    (retarget s).without p = s.without p := by
  unfold retarget; (try dsimp only); split_ifs <;> simp [tw, lic, gov, fan, mdl, alm, ring, foldl_without]

@[simp] theorem fallExpiry_without (t) (s : State)
    (tw : p .tw = true) (lic : p .lic = true) (gov : p .gov = true) (fan : p .fan = true)
    (mdl : p .mdl = true) (alm : p .alm = true) (ring : p .ring = true) :
    (fallExpiry t s).without p = s.without p := by
  unfold fallExpiry; (try dsimp only); split_ifs <;> simp [tw, lic, gov, fan, mdl, alm, ring]

@[simp] theorem rehold_without (c) (s : State)
    (tw : p .tw = true) (lic : p .lic = true) (gov : p .gov = true) (fan : p .fan = true)
    (alm : p .alm = true) (ring : p .ring = true) :
    (rehold c s).without p = s.without p := by
  unfold rehold; (try dsimp only); split_ifs <;> simp [tw, lic, gov, fan, alm, ring]

@[simp] theorem derateExpiry_without (t) (s : State)
    (tw : p .tw = true) (lic : p .lic = true) (gov : p .gov = true) (fan : p .fan = true)
    (alm : p .alm = true) (ring : p .ring = true) :
    (derateExpiry t s).without p = s.without p := by
  unfold derateExpiry; (try dsimp only); split_ifs <;> simp [tw, lic, gov, fan, alm, ring]

@[simp] theorem recoveryExpiry_without (t) (s : State)
    (tw : p .tw = true) (lic : p .lic = true) (gov : p .gov = true) (fan : p .fan = true)
    (alm : p .alm = true) (ring : p .ring = true) :
    (recoveryExpiry t s).without p = s.without p := by
  unfold recoveryExpiry; (try dsimp only); split_ifs <;> simp [tw, lic, gov, fan, alm, ring]

@[simp] theorem followCritical_without (s : State)
    (tw : p .tw = true) (lic : p .lic = true) (gov : p .gov = true) (fan : p .fan = true)
    (alm : p .alm = true) (ring : p .ring = true) :
    (followCritical s).without p = s.without p := by
  unfold followCritical; (try dsimp only); split_ifs <;> simp [tw, lic, gov, fan, alm, ring]

@[simp] theorem handFanTc_without (o) (s : State)
    (tw : p .tw = true) (lic : p .lic = true) (gov : p .gov = true) (fan : p .fan = true)
    (mdl : p .mdl = true) (alm : p .alm = true) (ring : p .ring = true) :
    (handFanTc o s).without p = s.without p := by
  simp [handFanTc, tw, lic, gov, fan, mdl, alm, ring]

@[simp] theorem rederiveTray_without (t) (s : State)
    (tw : p .tw = true) (lic : p .lic = true) (gov : p .gov = true) (fan : p .fan = true)
    (mdl : p .mdl = true) (alm : p .alm = true) (ring : p .ring = true) :
    (rederiveTray t s).without p = s.without p := by
  unfold rederiveTray; (try dsimp only); split_ifs <;> simp [tw, lic, gov, fan, mdl, alm, ring]

@[simp] theorem changeRotor_without (r x) (s : State)
    (tw : p .tw = true) (fan : p .fan = true) (alm : p .alm = true) (ring : p .ring = true) :
    (changeRotor r x s).without p = s.without p := by
  unfold changeRotor; (try dsimp only); split_ifs <;> simp [tw, fan, alm, ring]

@[simp] theorem measured_without (r x) (s : State)
    (tw : p .tw = true) (lic : p .lic = true) (gov : p .gov = true) (fan : p .fan = true)
    (mdl : p .mdl = true) (alm : p .alm = true) (ring : p .ring = true) :
    (measured r x s).without p = s.without p := by
  simp [measured, tw, lic, gov, fan, mdl, alm, ring]

@[simp] theorem goodMeasured_without (r a b) (s : State)
    (tw : p .tw = true) (lic : p .lic = true) (gov : p .gov = true) (fan : p .fan = true)
    (mdl : p .mdl = true) (alm : p .alm = true) (ring : p .ring = true) :
    (goodMeasured r a b s).without p = s.without p := by
  simp [goodMeasured, tw, lic, gov, fan, mdl, alm, ring]

@[simp] theorem stalledMeasured_without (r) (s : State)
    (tw : p .tw = true) (lic : p .lic = true) (gov : p .gov = true) (fan : p .fan = true)
    (mdl : p .mdl = true) (alm : p .alm = true) (ring : p .ring = true) :
    (stalledMeasured r s).without p = s.without p := by
  simp [stalledMeasured, tw, lic, gov, fan, mdl, alm, ring]

@[simp] theorem edge_without (r) (s : State)
    (tw : p .tw = true) (lic : p .lic = true) (gov : p .gov = true) (fan : p .fan = true)
    (mdl : p .mdl = true) (alm : p .alm = true) (ring : p .ring = true) :
    (edge r s).without p = s.without p := by
  unfold edge; (try dsimp only); repeat' split
  all_goals simp [tw, lic, gov, fan, mdl, alm, ring]

@[simp] theorem spinUpDone_without (r) (s : State)
    (tw : p .tw = true) (lic : p .lic = true) (gov : p .gov = true) (fan : p .fan = true)
    (mdl : p .mdl = true) (alm : p .alm = true) (ring : p .ring = true) :
    (spinUpDone r s).without p = s.without p := by
  unfold spinUpDone; (try dsimp only); split_ifs <;> simp [tw, lic, gov, fan, mdl, alm, ring]

@[simp] theorem trayChanged_without (t b f) (s : State)
    (tw : p .tw = true) (lic : p .lic = true) (gov : p .gov = true) (fan : p .fan = true)
    (mdl : p .mdl = true) (alm : p .alm = true) (ring : p .ring = true) :
    (trayChanged t b f s).without p = s.without p := by
  simp [trayChanged, tw, lic, gov, fan, mdl, alm, ring]

@[simp] theorem startTray_without (t) (s : State)
    (fan : p .fan = true) :
    (startTray s t).without p = s.without p := by
  unfold startTray; (try dsimp only); split_ifs <;> simp [fan]

/-! ### Module unit -/

@[simp] theorem setModule_without (i m) (s : State)
    (mdl : p .mdl = true) :
    (setModule i m s).without p = s.without p := by
  simp [setModule, mdl]

@[simp] theorem publishModule_without (i) (s : State)
    (tw : p .tw = true) :
    (publishModule i s).without p = s.without p := by
  simp [publishModule, tw]

@[simp] theorem publishLink_without (s : State)
    (tw : p .tw = true) :
    (publishLink s).without p = s.without p := by
  simp [publishLink, tw]

@[simp] theorem handModuleSource_without (i) (s : State)
    (tw : p .tw = true) (alm : p .alm = true) (ring : p .ring = true) :
    (handModuleSource i s).without p = s.without p := by
  simp [handModuleSource, tw, alm, ring]

@[simp] theorem judge_without (i) (s : State)
    (tw : p .tw = true) (lic : p .lic = true) (gov : p .gov = true) (mdl : p .mdl = true)
    (alm : p .alm = true) (ring : p .ring = true) :
    (judge i s).without p = s.without p := by
  unfold judge; (try dsimp only); split_ifs <;> simp [tw, lic, gov, mdl, alm, ring]

@[simp] theorem rejudgeTc_without (s : State)
    (tw : p .tw = true) (lic : p .lic = true) (gov : p .gov = true) (fan : p .fan = true)
    (mdl : p .mdl = true) (alm : p .alm = true) (ring : p .ring = true) :
    (rejudgeTc s).without p = s.without p := by
  unfold rejudgeTc; (try dsimp only); split_ifs <;> simp [tw, lic, gov, fan, mdl, alm, ring]

@[simp] theorem rejudgeSum_without (s : State)
    (tw : p .tw = true) (mdl : p .mdl = true) (alm : p .alm = true) (ring : p .ring = true) :
    (rejudgeSum s).without p = s.without p := by
  unfold rejudgeSum; (try dsimp only); split_ifs <;> simp [tw, mdl, alm, ring]

@[simp] theorem beginAttempt_without (i b) (s : State)
    (mdl : p .mdl = true) :
    (beginAttempt i b s).without p = s.without p := by
  simp [beginAttempt, mdl]

@[simp] theorem runPositions_without (l) (s : State)
    (tw : p .tw = true) (lic : p .lic = true) (gov : p .gov = true) (mdl : p .mdl = true)
    (alm : p .alm = true) (ring : p .ring = true) :
    (runPositions l s).without p = s.without p := by
  induction l generalizing s with
  | nil => simp [runPositions, tw, lic, gov, mdl, alm, ring]
  | cons i l ih => unfold runPositions; (try dsimp only); split_ifs <;> simp [tw, lic, gov, mdl, alm, ring, ih]

@[simp] theorem startRound_without (s : State)
    (tw : p .tw = true) (lic : p .lic = true) (gov : p .gov = true) (mdl : p .mdl = true)
    (alm : p .alm = true) (ring : p .ring = true) :
    (startRound s).without p = s.without p := by
  simp [startRound, tw, lic, gov, mdl, alm, ring]

@[simp] theorem finishPosition_without (i) (s : State)
    (tw : p .tw = true) (lic : p .lic = true) (gov : p .gov = true) (mdl : p .mdl = true)
    (alm : p .alm = true) (ring : p .ring = true) :
    (finishPosition i s).without p = s.without p := by
  unfold finishPosition; (try dsimp only); split_ifs <;> simp [tw, lic, gov, mdl, alm, ring]

@[simp] theorem pollExpiry_without (s : State)
    (tw : p .tw = true) (lic : p .lic = true) (gov : p .gov = true) (mdl : p .mdl = true)
    (alm : p .alm = true) (ring : p .ring = true) :
    (pollExpiry s).without p = s.without p := by
  unfold pollExpiry; (try dsimp only); split_ifs <;> simp [tw, lic, gov, mdl, alm, ring]

@[simp] theorem concludeAttempt_without (i m) (s : State)
    (tw : p .tw = true) (lic : p .lic = true) (gov : p .gov = true) (fan : p .fan = true)
    (mdl : p .mdl = true) (alm : p .alm = true) (ring : p .ring = true) :
    (concludeAttempt i m s).without p = s.without p := by
  simp [concludeAttempt, tw, lic, gov, fan, mdl, alm, ring]

@[simp] theorem attemptStart_without (s : State)
    (mdl : p .mdl = true) :
    (attemptStart s).without p = s.without p := by
  unfold attemptStart; (try dsimp only); repeat' split
  all_goals simp [mdl]

@[simp] theorem attemptEnd_without (r) (s : State)
    (tw : p .tw = true) (lic : p .lic = true) (gov : p .gov = true) (fan : p .fan = true)
    (mdl : p .mdl = true) (alm : p .alm = true) (ring : p .ring = true) :
    (attemptEnd r s).without p = s.without p := by
  unfold attemptEnd; (try dsimp only); repeat' split
  all_goals simp [tw, lic, gov, fan, mdl, alm, ring]

@[simp] theorem attemptLost_without (a w) (s : State)
    (tw : p .tw = true) (lic : p .lic = true) (gov : p .gov = true) (mdl : p .mdl = true)
    (alm : p .alm = true) (ring : p .ring = true) :
    (attemptLost a w s).without p = s.without p := by
  unfold attemptLost; (try dsimp only); split_ifs <;> simp [tw, lic, gov, mdl, alm, ring]

@[simp] theorem arbitrationLost_without (x) (s : State)
    (tw : p .tw = true) (lic : p .lic = true) (gov : p .gov = true) (mdl : p .mdl = true)
    (alm : p .alm = true) (ring : p .ring = true) :
    (arbitrationLost x s).without p = s.without p := by
  unfold arbitrationLost; (try dsimp only); repeat' split
  all_goals simp [tw, lic, gov, mdl, alm, ring]

@[simp] theorem stuck_without (s : State)
    (tw : p .tw = true) (lic : p .lic = true) (gov : p .gov = true) (fan : p .fan = true)
    (mdl : p .mdl = true) (alm : p .alm = true) (ring : p .ring = true) :
    (stuck s).without p = s.without p := by
  unfold stuck; (try dsimp only); repeat' split
  all_goals simp [tw, lic, gov, fan, mdl, alm, ring]

@[simp] theorem linkChange_without (a b) (s : State)
    (pins : p .pins = true) (mdl : p .mdl = true) :
    (linkChange a b s).without p = s.without p := by
  simp [linkChange, pins, mdl]

@[simp] theorem afterDebounce_without (i) (s : State)
    (tw : p .tw = true) (lic : p .lic = true) (gov : p .gov = true) (fan : p .fan = true)
    (mdl : p .mdl = true) (alm : p .alm = true) (ring : p .ring = true) :
    (afterDebounce i s).without p = s.without p := by
  simp [afterDebounce, tw, lic, gov, fan, mdl, alm, ring]

@[simp] theorem debounced_without (i l) (s : State)
    (tw : p .tw = true) (lic : p .lic = true) (gov : p .gov = true) (fan : p .fan = true)
    (mdl : p .mdl = true) (alm : p .alm = true) (ring : p .ring = true) :
    (debounced i l s).without p = s.without p := by
  unfold debounced; (try dsimp only); repeat' split
  all_goals simp [tw, lic, gov, fan, mdl, alm, ring]

/-! ### Mastership unit -/

@[simp] theorem publishMastership_without (s : State)
    (tw : p .tw = true) :
    (publishMastership s).without p = s.without p := by
  simp [publishMastership, tw]

@[simp] theorem handMastership_without (s : State)
    (tw : p .tw = true) (alm : p .alm = true) (ring : p .ring = true) :
    (handMastership s).without p = s.without p := by
  simp [handMastership, tw, alm, ring]

@[simp] theorem refreshEligibility_without (s : State)
    (tw : p .tw = true) (mast : p .mast = true) (alm : p .alm = true) (ring : p .ring = true) :
    (refreshEligibility s).without p = s.without p := by
  unfold refreshEligibility; (try dsimp only); split_ifs <;> simp [tw, mast, alm, ring]

@[simp] theorem appendMastership_without (a b c) (s : State)
    (tw : p .tw = true) (ring : p .ring = true) :
    (appendMastership a b c s).without p = s.without p := by
  simp [appendMastership, tw, ring]

@[simp] theorem changeMaster_without (a b) (s : State)
    (tw : p .tw = true) (ctl : p .ctl = true) (mast : p .mast = true) (zon : p .zon = true)
    (alm : p .alm = true) (ring : p .ring = true) :
    (changeMaster a b s).without p = s.without p := by
  unfold changeMaster; (try dsimp only); repeat' split
  all_goals simp [tw, ctl, mast, zon, alm, ring]

@[simp] theorem answerDone_without (o) (s : State)
    (tw : p .tw = true) (ctl : p .ctl = true) :
    (answerDone o s).without p = s.without p := by
  simp [answerDone, tw, ctl]

@[simp] theorem clearClaim_without (s : State)
    (mast : p .mast = true) :
    (clearClaim s).without p = s.without p := by
  simp [clearClaim, mast]

@[simp] theorem answerClaim_without (s : State)
    (tw : p .tw = true) (ctl : p .ctl = true) (mast : p .mast = true) :
    (answerClaim s).without p = s.without p := by
  unfold answerClaim; (try dsimp only); split_ifs <;> simp [tw, ctl, mast]

@[simp] theorem lapse_without (c) (s : State)
    (tw : p .tw = true) (ctl : p .ctl = true) (mast : p .mast = true) (zon : p .zon = true)
    (alm : p .alm = true) (ring : p .ring = true) :
    (lapse c s).without p = s.without p := by
  unfold lapse; (try dsimp only); repeat' split
  all_goals simp [tw, ctl, mast, zon, alm, ring]

@[simp] theorem heartbeatOf_without (d) (s : State)
    (tw : p .tw = true) (mast : p .mast = true) (alm : p .alm = true) (ring : p .ring = true) :
    (heartbeatOf d s).without p = s.without p := by
  unfold heartbeatOf; (try dsimp only); split_ifs <;> simp [tw, mast, alm, ring]

@[simp] theorem heartbeatExpired_without (d) (s : State)
    (tw : p .tw = true) (ctl : p .ctl = true) (mast : p .mast = true) (zon : p .zon = true)
    (alm : p .alm = true) (ring : p .ring = true) :
    (heartbeatExpired d s).without p = s.without p := by
  unfold heartbeatExpired; (try dsimp only); split_ifs <;> simp [tw, ctl, mast, zon, alm, ring]

@[simp] theorem withdrawClaim_without (d) (s : State)
    (tw : p .tw = true) (ctl : p .ctl = true) (mast : p .mast = true) :
    (withdrawClaim d s).without p = s.without p := by
  unfold withdrawClaim; (try dsimp only); repeat' split
  all_goals simp [tw, ctl, mast]

@[simp] theorem runLost_without (d) (s : State)
    (tw : p .tw = true) (ctl : p .ctl = true) (mast : p .mast = true) (zon : p .zon = true)
    (alm : p .alm = true) (ring : p .ring = true) :
    (runLost d s).without p = s.without p := by
  unfold runLost; (try dsimp only); repeat' split
  all_goals simp [tw, ctl, mast, zon, alm, ring]

@[simp] theorem claimAtNone_without (d) (s : State)
    (tw : p .tw = true) (ctl : p .ctl = true) (mast : p .mast = true) (zon : p .zon = true)
    (alm : p .alm = true) (ring : p .ring = true) :
    (claimAtNone d s).without p = s.without p := by
  simp [claimAtNone, tw, ctl, mast, zon, alm, ring]

@[simp] theorem claimPending_without (d g) (s : State)
    (tw : p .tw = true) (ctl : p .ctl = true) (mast : p .mast = true) :
    (claimPending d g s).without p = s.without p := by
  simp [claimPending, tw, ctl, mast]

@[simp] theorem releaseFrom_without (d) (s : State)
    (tw : p .tw = true) (ctl : p .ctl = true) (mast : p .mast = true) (zon : p .zon = true)
    (alm : p .alm = true) (ring : p .ring = true) :
    (releaseFrom d s).without p = s.without p := by
  simp [releaseFrom, tw, ctl, mast, zon, alm, ring]

@[simp] theorem takeMastership_without (d c g) (s : State)
    (tw : p .tw = true) (ctl : p .ctl = true) (mast : p .mast = true) (zon : p .zon = true)
    (alm : p .alm = true) (ring : p .ring = true) :
    (takeMastership d c g s).without p = s.without p := by
  unfold takeMastership; (try dsimp only); repeat' split
  all_goals simp [tw, ctl, mast, zon, alm, ring]

end Sys2Proof.Machine
end

