-- ==== Sys2Proof/Laws/Access.lean ====
section
/-! SUPPORT. The frames of the loader, the classifier, the port and the time base: each operation changes only the named parts of the state. -/

namespace Sys2Proof.Machine

set_option linter.unusedSimpArgs false
set_option linter.unusedVariables false
set_option linter.unusedTactic false

variable {p : Part → Bool}

/-! ### Descriptor loader -/

@[simp] theorem queueVerdict_without (v a b) (s : State)
    (tw : p .tw = true) :
    (queueVerdict v a b s).without p = s.without p := by
  simp [queueVerdict, tw]

@[simp] theorem startLoad_without (d) (s : State)
    (tw : p .tw = true) (ldr : p .ldr = true) :
    (startLoad d s).without p = s.without p := by
  simp [startLoad, tw, ldr]

@[simp] theorem endLoad_without (v n) (s : State)
    (tw : p .tw = true) (ldr : p .ldr = true) :
    (endLoad v n s).without p = s.without p := by
  simp [endLoad, tw, ldr]

@[simp] theorem loadAsk_without (s : State)
    (tw : p .tw = true) :
    (loadAsk s).without p = s.without p := by
  simp [loadAsk, tw]

@[simp] theorem loaderFirst_without (s : State)
    (tw : p .tw = true) :
    (loaderFirst s).without p = s.without p := by
  unfold loaderFirst; (try dsimp only); split_ifs <;> simp [tw]

@[simp] theorem judgeDescriptor_without (s : State)
    (tw : p .tw = true) (ldr : p .ldr = true) :
    (judgeDescriptor s).without p = s.without p := by
  unfold judgeDescriptor; (try dsimp only); repeat' split
  all_goals simp [tw, ldr]

@[simp] theorem descriptorData_without (w) (s : State)
    (tw : p .tw = true) (ldr : p .ldr = true) :
    (descriptorData w s).without p = s.without p := by
  unfold descriptorData; (try dsimp only); split_ifs <;> simp [tw, ldr]

@[simp] theorem pctData_without (w) (s : State)
    (tw : p .tw = true) (ldr : p .ldr = true) :
    (pctData w s).without p = s.without p := by
  simp [pctData, tw, ldr]

@[simp] theorem entryUnits_without (w) (s : State)
    (params : p .params = true) (regions : p .regions = true) (time : p .time = true)
    (port : p .port = true) (mast : p .mast = true) (lic : p .lic = true) (gov : p .gov = true)
    (zon : p .zon = true) (fan : p .fan = true) (ring : p .ring = true) (ldr : p .ldr = true) :
    (entryUnits w s).without p = s.without p := by
  simp [entryUnits, params, regions, time, port, mast, lic, gov, zon, fan, ring, ldr, foldl_without]

@[simp] theorem entrySettle_without (s : State)
    (tw : p .tw = true) (lic : p .lic = true) (gov : p .gov = true) (alm : p .alm = true)
    (ring : p .ring = true) :
    (entrySettle s).without p = s.without p := by
  simp [entrySettle, tw, lic, gov, alm, ring]

@[simp] theorem entryLapse_without (s : State)
    (tw : p .tw = true) (mast : p .mast = true) (ring : p .ring = true) :
    (entryLapse s).without p = s.without p := by
  unfold entryLapse; split_ifs
  · rfl
  · simp [tw, mast, ring]

@[simp] theorem entryAlarm_without (x) (s : State)
    (tw : p .tw = true) (alm : p .alm = true) (ring : p .ring = true) :
    (entryAlarm s x).without p = s.without p := by
  unfold entryAlarm; (try dsimp only); split_ifs <;> simp [tw, alm, ring]

@[simp] theorem entryAlarms_without (s : State)
    (tw : p .tw = true) (alm : p .alm = true) (ring : p .ring = true) :
    (entryAlarms s).without p = s.without p := by
  simp [entryAlarms, tw, alm, ring, foldl_without]

@[simp] theorem entryImages_without (f) (s : State)
    (tw : p .tw = true) :
    (entryImages f s).without p = s.without p := by
  simp [entryImages, tw, foldl_without]

@[simp] theorem beginPublication_without (s : State)
    (tw : p .tw = true) (ldr : p .ldr = true) :
    (beginPublication s).without p = s.without p := by
  simp [beginPublication, tw, ldr]

@[simp] theorem enterSupervising_without (w) (s : State)
    (params : p .params = true) (regions : p .regions = true) (time : p .time = true)
    (port : p .port = true) (tw : p .tw = true) (mast : p .mast = true) (lic : p .lic = true)
    (gov : p .gov = true) (zon : p .zon = true) (fan : p .fan = true) (mdl : p .mdl = true)
    (alm : p .alm = true) (ring : p .ring = true) (ldr : p .ldr = true) :
    (enterSupervising w s).without p = s.without p := by
  simp [enterSupervising, params, regions, time, port, tw, mast, lic, gov, zon, fan, mdl, alm, ring, ldr]

@[simp] theorem loadData_without (w e) (s : State)
    (params : p .params = true) (regions : p .regions = true) (time : p .time = true)
    (port : p .port = true) (tw : p .tw = true) (mast : p .mast = true) (lic : p .lic = true)
    (gov : p .gov = true) (zon : p .zon = true) (fan : p .fan = true) (mdl : p .mdl = true)
    (alm : p .alm = true) (ring : p .ring = true) (ldr : p .ldr = true) :
    (loadData w e s).without p = s.without p := by
  unfold loadData; (try dsimp only); split_ifs <;> simp [params, regions, time, port, tw, mast, lic, gov, zon, fan, mdl, alm, ring, ldr]

@[simp] theorem publishNext_without (n) (s : State)
    (tw : p .tw = true) (ldr : p .ldr = true) :
    (publishNext n s).without p = s.without p := by
  unfold publishNext; (try dsimp only); split_ifs <;> simp [tw, ldr]

@[simp] theorem abortInstall_without (k) (s : State)
    (tw : p .tw = true) (ctl : p .ctl = true) (lic : p .lic = true) :
    (abortInstall s k).without p = s.without p := by
  unfold abortInstall; split_ifs <;> simp [tw, ctl, lic]

@[simp] theorem abortClaim_without (s : State)
    (tw : p .tw = true) (ctl : p .ctl = true) (mast : p .mast = true) :
    (abortClaim s).without p = s.without p := by
  unfold abortClaim; (try dsimp only); split_ifs <;> simp [tw, ctl, mast]

@[simp] theorem cutPublication_without (s : State)
    (tw : p .tw = true) (ldr : p .ldr = true) :
    (cutPublication s).without p = s.without p := by
  unfold cutPublication; (try dsimp only); split_ifs <;> simp [tw, ldr]

@[simp] theorem beginClosing_without (s : State)
    (ldr : p .ldr = true) :
    (beginClosing s).without p = s.without p := by
  simp [beginClosing, ldr]

@[simp] theorem restartTaken_without (s : State)
    (tw : p .tw = true) (ctl : p .ctl = true) (mast : p .mast = true) (lic : p .lic = true)
    (zon : p .zon = true) (ldr : p .ldr = true) :
    (restartTaken s).without p = s.without p := by
  simp [restartTaken, tw, ctl, mast, lic, zon, ldr, foldl_without]

@[simp] theorem awaitFlipWrites_without (s : State)
    (ldr : p .ldr = true) :
    (awaitFlipWrites s).without p = s.without p := by
  unfold awaitFlipWrites; (try dsimp only); repeat' split
  all_goals simp [ldr]

/-! ### Access classifier -/

@[simp] theorem complete_without (d c) (s : State)
    (bus : p .bus = true) :
    (complete d c s).without p = s.without p := by
  simp [complete, bus]

@[simp] theorem forward_without (d a) (s : State)
    (port : p .port = true) :
    (forward d a s).without p = s.without p := by
  simp [forward, port]

@[simp] theorem abandonCommit_without (s : State)
    (tw : p .tw = true) (ctl : p .ctl = true) (zon : p .zon = true) (ring : p .ring = true) :
    (abandonCommit s).without p = s.without p := by
  simp [abandonCommit, tw, ctl, zon, ring]

@[simp] theorem takeZoning_without (c) (s : State)
    (tw : p .tw = true) (ctl : p .ctl = true) (zon : p .zon = true) (ring : p .ring = true) :
    (takeZoning c s).without p = s.without p := by
  unfold takeZoning; (try dsimp only); split_ifs <;> simp [tw, ctl, zon, ring]

@[simp] theorem takeAck_without (n) (s : State)
    (tw : p .tw = true) (ctl : p .ctl = true) (alm : p .alm = true) :
    (takeAck n s).without p = s.without p := by
  simp [takeAck, tw, ctl, alm]

@[simp] theorem takeSlot_without (k c) (s : State)
    (tw : p .tw = true) (ctl : p .ctl = true) (lic : p .lic = true) (gov : p .gov = true)
    (alm : p .alm = true) (ring : p .ring = true) :
    (takeSlot k c s).without p = s.without p := by
  unfold takeSlot; (try dsimp only); split_ifs <;> simp [tw, ctl, lic, gov, alm, ring]

@[simp] theorem takeRequest_without (c d w) (s : State)
    (tw : p .tw = true) (ctl : p .ctl = true) (mast : p .mast = true) (lic : p .lic = true)
    (gov : p .gov = true) (zon : p .zon = true) (alm : p .alm = true) (ring : p .ring = true)
    (ldr : p .ldr = true) :
    (takeRequest c d w s).without p = s.without p := by
  unfold takeRequest; (try dsimp only); repeat' split
  all_goals simp [tw, ctl, mast, lic, gov, zon, alm, ring, ldr]

@[simp] theorem handPctByte_without (q w) (s : State)
    (tw : p .tw = true) (lic : p .lic = true) (gov : p .gov = true) (mdl : p .mdl = true)
    (alm : p .alm = true) (ring : p .ring = true) :
    (handPctByte q w s).without p = s.without p := by
  unfold handPctByte; (try dsimp only); split_ifs <;> simp [tw, lic, gov, mdl, alm, ring]

theorem dropped_without (d a r) (s : State)
    (tw : p .tw = true) (drop : p .drop = true) (ctl : p .ctl = true) (mast : p .mast = true)
    (lic : p .lic = true) (gov : p .gov = true) (zon : p .zon = true) (mdl : p .mdl = true)
    (alm : p .alm = true) (ring : p .ring = true) (ldr : p .ldr = true) :
    (dropped d a r s).1.without p = s.without p := by
  simp [dropped, tw, drop]

theorem requestWord_without (c d a w) (s : State)
    (tw : p .tw = true) (drop : p .drop = true) (ctl : p .ctl = true) (mast : p .mast = true)
    (lic : p .lic = true) (gov : p .gov = true) (zon : p .zon = true) (mdl : p .mdl = true)
    (alm : p .alm = true) (ring : p .ring = true) (ldr : p .ldr = true) :
    (requestWord c d a w s).1.without p = s.without p := by
  unfold requestWord; repeat' split
  all_goals simp [dropped, passed, tw, drop, ctl, mast, lic, gov, zon, mdl, alm, ring, ldr]

theorem consumerWord_without (d a w) (s : State)
    (tw : p .tw = true) (drop : p .drop = true) (ctl : p .ctl = true) (mast : p .mast = true)
    (lic : p .lic = true) (gov : p .gov = true) (zon : p .zon = true) (mdl : p .mdl = true)
    (alm : p .alm = true) (ring : p .ring = true) (ldr : p .ldr = true) :
    (consumerWord d a w s).1.without p = s.without p := by
  unfold consumerWord; split_ifs <;> simp [dropped, passed, tw, drop, ctl, mast, lic, gov, zon, mdl, alm, ring, ldr]

theorem heartbeatWord_without (o d a w) (s : State)
    (tw : p .tw = true) (drop : p .drop = true) (ctl : p .ctl = true) (mast : p .mast = true)
    (lic : p .lic = true) (gov : p .gov = true) (zon : p .zon = true) (mdl : p .mdl = true)
    (alm : p .alm = true) (ring : p .ring = true) (ldr : p .ldr = true) :
    (heartbeatWord o d a w s).1.without p = s.without p := by
  unfold heartbeatWord; split_ifs <;> simp [dropped, passed, tw, drop, ctl, mast, lic, gov, zon, mdl, alm, ring, ldr]

theorem ccpWrite_without (d n a w) (s : State)
    (tw : p .tw = true) (drop : p .drop = true) (ctl : p .ctl = true) (mast : p .mast = true)
    (lic : p .lic = true) (gov : p .gov = true) (zon : p .zon = true) (mdl : p .mdl = true)
    (alm : p .alm = true) (ring : p .ring = true) (ldr : p .ldr = true) :
    (ccpWrite d n a w s).1.without p = s.without p := by
  unfold ccpWrite; split_ifs
  all_goals first
    | exact requestWord_without _ _ _ _ _ tw drop ctl mast lic gov zon mdl alm ring ldr
    | exact heartbeatWord_without _ _ _ _ _ tw drop ctl mast lic gov zon mdl alm ring ldr
    | exact consumerWord_without _ _ _ _ tw drop ctl mast lic gov zon mdl alm ring ldr
    | simp [dropped, tw, drop]

theorem lsaWrite_without (d n a w) (s : State)
    (tw : p .tw = true) (drop : p .drop = true) (ctl : p .ctl = true) (mast : p .mast = true)
    (lic : p .lic = true) (gov : p .gov = true) (zon : p .zon = true) (mdl : p .mdl = true)
    (alm : p .alm = true) (ring : p .ring = true) (ldr : p .ldr = true) :
    (lsaWrite d n a w s).1.without p = s.without p := by
  unfold lsaWrite; (try dsimp only); split_ifs
  all_goals first
    | exact requestWord_without _ _ _ _ _ tw drop ctl mast lic gov zon mdl alm ring ldr
    | rfl
    | simp [dropped, tw, drop]

theorem pctWrite_without (n a w) (s : State)
    (tw : p .tw = true) (drop : p .drop = true) (ctl : p .ctl = true) (mast : p .mast = true)
    (lic : p .lic = true) (gov : p .gov = true) (zon : p .zon = true) (mdl : p .mdl = true)
    (alm : p .alm = true) (ring : p .ring = true) (ldr : p .ldr = true) :
    (pctWrite n a w s).1.without p = s.without p := by
  unfold pctWrite; split_ifs <;> simp [passed, tw, drop, ctl, mast, lic, gov, zon, mdl, alm, ring, ldr]

theorem zewWord_without (d n a w) (s : State)
    (tw : p .tw = true) (drop : p .drop = true) (ctl : p .ctl = true) (mast : p .mast = true)
    (lic : p .lic = true) (gov : p .gov = true) (zon : p .zon = true) (mdl : p .mdl = true)
    (alm : p .alm = true) (ring : p .ring = true) (ldr : p .ldr = true) :
    (zewWord d n a w s).1.without p = s.without p := by
  unfold zewWord; split_ifs <;> simp [dropped, tw, drop, ctl, mast, lic, gov, zon, mdl, alm, ring, ldr]

theorem permitted_without (d a w) (s : State)
    (tw : p .tw = true) (drop : p .drop = true) (ctl : p .ctl = true) (mast : p .mast = true)
    (lic : p .lic = true) (gov : p .gov = true) (zon : p .zon = true) (mdl : p .mdl = true)
    (alm : p .alm = true) (ring : p .ring = true) (ldr : p .ldr = true) :
    (permitted d a w s).1.without p = s.without p := by
  unfold permitted; split
  all_goals first
    | exact pctWrite_without _ _ _ _ tw drop ctl mast lic gov zon mdl alm ring ldr
    | exact lsaWrite_without _ _ _ _ _ tw drop ctl mast lic gov zon mdl alm ring ldr
    | exact ccpWrite_without _ _ _ _ _ tw drop ctl mast lic gov zon mdl alm ring ldr
    | exact zewWord_without _ _ _ _ _ tw drop ctl mast lic gov zon mdl alm ring ldr
    | rfl
    | simp [dropped, tw, drop]

theorem decideWord_without (d a w) (s : State)
    (tw : p .tw = true) (drop : p .drop = true) (ctl : p .ctl = true) (mast : p .mast = true)
    (lic : p .lic = true) (gov : p .gov = true) (zon : p .zon = true) (mdl : p .mdl = true)
    (alm : p .alm = true) (ring : p .ring = true) (ldr : p .ldr = true) :
    (decideWord d a w s).1.without p = s.without p := by
  unfold decideWord; split
  · simp [dropped, tw, drop]
  · exact permitted_without _ _ _ _ tw drop ctl mast lic gov zon mdl alm ring ldr

theorem burstStep_without (d) (a : State × List WordOp × Bool) (x)
    (tw : p .tw = true) (drop : p .drop = true) (ctl : p .ctl = true) (mast : p .mast = true)
    (lic : p .lic = true) (gov : p .gov = true) (zon : p .zon = true) (mdl : p .mdl = true)
    (alm : p .alm = true) (ring : p .ring = true) (ldr : p .ldr = true) :
    (burstStep d a x).1.without p = a.1.without p := by
  have h := decideWord_without (p := p) d x.1 x.2 a.1 tw drop ctl mast lic gov zon mdl alm ring ldr
  unfold burstStep; dsimp only; split <;> exact h

@[simp] theorem classifyWrite_without (d a x b) (s : State)
    (port : p .port = true) (tw : p .tw = true) (bus : p .bus = true) (drop : p .drop = true)
    (ctl : p .ctl = true) (mast : p .mast = true) (lic : p .lic = true) (gov : p .gov = true)
    (zon : p .zon = true) (mdl : p .mdl = true) (alm : p .alm = true) (ring : p .ring = true)
    (ldr : p .ldr = true) :
    (classifyWrite d a x b s).without p = s.without p := by
  unfold classifyWrite; dsimp only
  have h := foldl_without_fst (p := p) (burstStep d)
    (fun a x => burstStep_without d a x tw drop ctl mast lic gov zon mdl alm ring ldr) (writeWords a x) (s, [], false)
  split_ifs <;> simp [bus, port, h]

theorem reportDesc_without (d a ws) (s : State) (tw : p .tw = true) (ldr : p .ldr = true) :
    (reportDesc d a ws s).1.without p = s.without p := by
  unfold reportDesc; repeat' split
  all_goals simp [tw, ldr]

@[simp] theorem rawWrite_without (d a x b) (s : State)
    (port : p .port = true) (tw : p .tw = true) (ldr : p .ldr = true) :
    (rawWrite d a x b s).without p = s.without p := by
  unfold rawWrite; (try dsimp only); split_ifs <;> simp [port, tw, ldr, reportDesc_without]

@[simp] theorem writeArrives_without (d a x b) (s : State)
    (port : p .port = true) (tw : p .tw = true) (bus : p .bus = true) (drop : p .drop = true)
    (ctl : p .ctl = true) (mast : p .mast = true) (lic : p .lic = true) (gov : p .gov = true)
    (zon : p .zon = true) (mdl : p .mdl = true) (alm : p .alm = true) (ring : p .ring = true)
    (ldr : p .ldr = true) :
    (writeArrives d a x b s).without p = s.without p := by
  unfold writeArrives; (try dsimp only); split_ifs <;> simp [port, tw, bus, drop, ctl, mast, lic, gov, zon, mdl, alm, ring, ldr]

@[simp] theorem readArrives_without (d a b c) (s : State)
    (port : p .port = true) (bus : p .bus = true) :
    (readArrives d a b c s).without p = s.without p := by
  unfold readArrives; (try dsimp only); split_ifs <;> simp [port, bus]

@[simp] theorem presentWrite_without (d a x b) (s : State)
    (port : p .port = true) (tw : p .tw = true) (bus : p .bus = true) (drop : p .drop = true)
    (ctl : p .ctl = true) (mast : p .mast = true) (lic : p .lic = true) (gov : p .gov = true)
    (zon : p .zon = true) (mdl : p .mdl = true) (alm : p .alm = true) (ring : p .ring = true)
    (ldr : p .ldr = true) :
    (presentWrite d a x b s).without p = s.without p := by
  unfold presentWrite; (try dsimp only); split_ifs <;> simp [port, tw, bus, drop, ctl, mast, lic, gov, zon, mdl, alm, ring, ldr]

@[simp] theorem presentRead_without (d a b c) (s : State)
    (port : p .port = true) (bus : p .bus = true) :
    (presentRead d a b c s).without p = s.without p := by
  unfold presentRead; (try dsimp only); split_ifs <;> simp [port, bus]

@[simp] theorem releaseHeld_without (d) (s : State)
    (port : p .port = true) (tw : p .tw = true) (bus : p .bus = true) (drop : p .drop = true)
    (ctl : p .ctl = true) (mast : p .mast = true) (lic : p .lic = true) (gov : p .gov = true)
    (zon : p .zon = true) (mdl : p .mdl = true) (alm : p .alm = true) (ring : p .ring = true)
    (ldr : p .ldr = true) :
    (releaseHeld d s).without p = s.without p := by
  unfold releaseHeld; (try dsimp only); repeat' split
  all_goals simp [port, tw, bus, drop, ctl, mast, lic, gov, zon, mdl, alm, ring, ldr]

@[simp] theorem writeDesc_without (d n w b) (s : State)
    (port : p .port = true) (tw : p .tw = true) (bus : p .bus = true) (drop : p .drop = true)
    (ctl : p .ctl = true) (mast : p .mast = true) (lic : p .lic = true) (gov : p .gov = true)
    (zon : p .zon = true) (mdl : p .mdl = true) (alm : p .alm = true) (ring : p .ring = true)
    (ldr : p .ldr = true) :
    (writeDesc d n w b s).without p = s.without p := by
  simp [writeDesc, port, tw, bus, drop, ctl, mast, lic, gov, zon, mdl, alm, ring, ldr]

@[simp] theorem writeCcp_without (d n w b) (s : State)
    (port : p .port = true) (tw : p .tw = true) (bus : p .bus = true) (drop : p .drop = true)
    (ctl : p .ctl = true) (mast : p .mast = true) (lic : p .lic = true) (gov : p .gov = true)
    (zon : p .zon = true) (mdl : p .mdl = true) (alm : p .alm = true) (ring : p .ring = true)
    (ldr : p .ldr = true) :
    (writeCcp d n w b s).without p = s.without p := by
  unfold writeCcp; (try dsimp only); split_ifs <;> simp [port, tw, bus, drop, ctl, mast, lic, gov, zon, mdl, alm, ring, ldr]

@[simp] theorem writePct_without (d q w b) (s : State)
    (port : p .port = true) (tw : p .tw = true) (bus : p .bus = true) (drop : p .drop = true)
    (ctl : p .ctl = true) (mast : p .mast = true) (lic : p .lic = true) (gov : p .gov = true)
    (zon : p .zon = true) (mdl : p .mdl = true) (alm : p .alm = true) (ring : p .ring = true)
    (ldr : p .ldr = true) :
    (writePct d q w b s).without p = s.without p := by
  unfold writePct; (try dsimp only); split_ifs <;> simp [port, tw, bus, drop, ctl, mast, lic, gov, zon, mdl, alm, ring, ldr]

@[simp] theorem writeSlot_without (d k w b) (s : State)
    (port : p .port = true) (tw : p .tw = true) (bus : p .bus = true) (drop : p .drop = true)
    (ctl : p .ctl = true) (mast : p .mast = true) (lic : p .lic = true) (gov : p .gov = true)
    (zon : p .zon = true) (mdl : p .mdl = true) (alm : p .alm = true) (ring : p .ring = true)
    (ldr : p .ldr = true) :
    (writeSlot d k w b s).without p = s.without p := by
  unfold writeSlot; (try dsimp only); split_ifs <;> simp [port, tw, bus, drop, ctl, mast, lic, gov, zon, mdl, alm, ring, ldr]

@[simp] theorem writeWindow_without (d n x b) (s : State)
    (port : p .port = true) (tw : p .tw = true) (bus : p .bus = true) (drop : p .drop = true)
    (ctl : p .ctl = true) (mast : p .mast = true) (lic : p .lic = true) (gov : p .gov = true)
    (zon : p .zon = true) (mdl : p .mdl = true) (alm : p .alm = true) (ring : p .ring = true)
    (ldr : p .ldr = true) :
    (writeWindow d n x b s).without p = s.without p := by
  unfold writeWindow; (try dsimp only); split_ifs <;> simp [port, tw, bus, drop, ctl, mast, lic, gov, zon, mdl, alm, ring, ldr]

/-! ### Table writer and arbiter -/

@[simp] theorem giveRecord_without (r n) (s : State)
    (tw : p .tw = true) :
    (giveRecord r n s).without p = s.without p := by
  simp [giveRecord, tw]

@[simp] theorem giveValue_without (e) (s : State)
    (tw : p .tw = true) (ctl : p .ctl = true) (zon : p .zon = true) (ring : p .ring = true) :
    (giveValue e s).without p = s.without p := by
  unfold giveValue; (try dsimp only); split_ifs <;> simp [tw, ctl, zon, ring]

@[simp] theorem givePublication_without (s : State)
    (tw : p .tw = true) (ldr : p .ldr = true) :
    (givePublication s).without p = s.without p := by
  unfold givePublication; (try dsimp only); repeat' split
  all_goals simp [tw, ldr]

@[simp] theorem giveOne_without (s : State)
    (tw : p .tw = true) (ctl : p .ctl = true) (zon : p .zon = true) (ring : p .ring = true)
    (ldr : p .ldr = true) :
    (giveOne s).without p = s.without p := by
  unfold giveOne; (try dsimp only); repeat' split
  all_goals simp [tw, ctl, zon, ring, ldr]

@[simp] theorem drain_without (n) (s : State)
    (tw : p .tw = true) (ctl : p .ctl = true) (zon : p .zon = true) (ring : p .ring = true)
    (ldr : p .ldr = true) :
    (drain n s).without p = s.without p := by
  induction n generalizing s with
  | zero => rfl
  | succ n ih => unfold drain; split_ifs <;> simp [tw, ctl, zon, ring, ldr, ih]

@[simp] theorem beginSide_without (d) (s : State)
    (port : p .port = true) :
    (beginSide d s).without p = s.without p := by
  unfold beginSide; (try dsimp only); repeat' split
  all_goals simp [port]

@[simp] theorem beginAccess_without (r) (s : State)
    (port : p .port = true) :
    (beginAccess r s).without p = s.without p := by
  unfold beginAccess; (try dsimp only); repeat' split
  all_goals simp [port]

@[simp] theorem arbitrate_without (s : State)
    (port : p .port = true) :
    (arbitrate s).without p = s.without p := by
  unfold arbitrate; (try dsimp only); repeat' split
  all_goals simp [port]

@[simp] theorem overrun_without (d a) (s : State)
    (port : p .port = true) (tw : p .tw = true) (ring : p .ring = true) :
    (overrun d a s).without p = s.without p := by
  simp [overrun, port, tw, ring]

@[simp] theorem grantIdle_without (s : State)
    (port : p .port = true) (tw : p .tw = true) (ring : p .ring = true) :
    (grantIdle s).without p = s.without p := by
  unfold grantIdle; (try dsimp only); repeat' split
  all_goals simp [port, tw, ring]

@[simp] theorem kick_without (s : State)
    (port : p .port = true) (tw : p .tw = true) (ring : p .ring = true) :
    (kick s).without p = s.without p := by
  unfold kick; (try dsimp only); split_ifs <;> simp [port, tw, ring]

@[simp] theorem finish_without (s : State)
    (port : p .port = true) (tw : p .tw = true) (ctl : p .ctl = true) (zon : p .zon = true)
    (ring : p .ring = true) (ldr : p .ldr = true) :
    (finish s).without p = s.without p := by
  simp [finish, port, tw, ctl, zon, ring, ldr]

/-! ### Time base and lines -/

@[simp] theorem takeSecond_without (s : State)
    (time : p .time = true) :
    (takeSecond s).without p = s.without p := by
  unfold takeSecond; (try dsimp only); split_ifs <;> simp [time]

@[simp] theorem takeHour_without (s : State)
    (time : p .time = true) (tw : p .tw = true) (ctl : p .ctl = true) (lic : p .lic = true)
    (gov : p .gov = true) (alm : p .alm = true) (ring : p .ring = true) :
    (takeHour s).without p = s.without p := by
  unfold takeHour; (try dsimp only); split_ifs <;> simp [time, tw, ctl, lic, gov, alm, ring]

@[simp] theorem takeRotors_without (s : State)
    (tw : p .tw = true) (lic : p .lic = true) (gov : p .gov = true) (fan : p .fan = true)
    (mdl : p .mdl = true) (alm : p .alm = true) (ring : p .ring = true) :
    (takeRotors s).without p = s.without p := by
  simp [takeRotors, tw, lic, gov, fan, mdl, alm, ring, foldl_without]

@[simp] theorem takeFalls_without (s : State)
    (tw : p .tw = true) (lic : p .lic = true) (gov : p .gov = true) (fan : p .fan = true)
    (mdl : p .mdl = true) (alm : p .alm = true) (ring : p .ring = true) :
    (takeFalls s).without p = s.without p := by
  simp [takeFalls, tw, lic, gov, fan, mdl, alm, ring, foldl_without]

@[simp] theorem takeDerates_without (s : State)
    (tw : p .tw = true) (lic : p .lic = true) (gov : p .gov = true) (fan : p .fan = true)
    (alm : p .alm = true) (ring : p .ring = true) :
    (takeDerates s).without p = s.without p := by
  simp [takeDerates, tw, lic, gov, fan, alm, ring, foldl_without]

@[simp] theorem takeRecoveries_without (s : State)
    (tw : p .tw = true) (lic : p .lic = true) (gov : p .gov = true) (fan : p .fan = true)
    (alm : p .alm = true) (ring : p .ring = true) :
    (takeRecoveries s).without p = s.without p := by
  simp [takeRecoveries, tw, lic, gov, fan, alm, ring, foldl_without]

@[simp] theorem takeLines_without (s : State)
    (tw : p .tw = true) (lic : p .lic = true) (gov : p .gov = true) (fan : p .fan = true)
    (mdl : p .mdl = true) (alm : p .alm = true) (ring : p .ring = true) :
    (takeLines s).without p = s.without p := by
  simp [takeLines, tw, lic, gov, fan, mdl, alm, ring, foldl_without]

@[simp] theorem takeClears_without (s : State)
    (tw : p .tw = true) (alm : p .alm = true) (ring : p .ring = true) :
    (takeClears s).without p = s.without p := by
  simp [takeClears, tw, alm, ring, foldl_without]

@[simp] theorem takeDue_without (s : State)
    (time : p .time = true) (tw : p .tw = true) (ctl : p .ctl = true) (mast : p .mast = true)
    (lic : p .lic = true) (gov : p .gov = true) (zon : p .zon = true) (fan : p .fan = true)
    (mdl : p .mdl = true) (alm : p .alm = true) (ring : p .ring = true) :
    (takeDue s).without p = s.without p := by
  simp [takeDue, time, tw, ctl, mast, lic, gov, zon, fan, mdl, alm, ring]

@[simp] theorem tickUnits_without (s : State)
    (time : p .time = true) (mast : p .mast = true) (fan : p .fan = true) (mdl : p .mdl = true)
    (alm : p .alm = true) :
    (tickUnits s).without p = s.without p := by
  unfold tickUnits; (try dsimp only); split_ifs <;> simp [time, mast, fan, mdl, alm]

@[simp] theorem sampleTick_without (a b) (s : State)
    (pins : p .pins = true) (mdl : p .mdl = true) :
    (sampleTick a b s).without p = s.without p := by
  simp [sampleTick, pins, mdl]

@[simp] theorem tickEvent_without (a b) (s : State)
    (pins : p .pins = true) (time : p .time = true) (tw : p .tw = true) (ctl : p .ctl = true)
    (mast : p .mast = true) (lic : p .lic = true) (gov : p .gov = true) (zon : p .zon = true)
    (fan : p .fan = true) (mdl : p .mdl = true) (alm : p .alm = true) (ring : p .ring = true) :
    (tickEvent a b s).without p = s.without p := by
  simp [tickEvent, pins, time, tw, ctl, mast, lic, gov, zon, fan, mdl, alm, ring]

@[simp] theorem rotorPeriod_without (r) (s : State)
    (tw : p .tw = true) (lic : p .lic = true) (gov : p .gov = true) (fan : p .fan = true)
    (mdl : p .mdl = true) (alm : p .alm = true) (ring : p .ring = true) :
    (rotorPeriod s r).without p = s.without p := by
  unfold rotorPeriod; (try dsimp only); split_ifs <;> simp [tw, lic, gov, fan, mdl, alm, ring]

@[simp] theorem linkPeriod_without (s : State)
    (tw : p .tw = true) (lic : p .lic = true) (gov : p .gov = true) (fan : p .fan = true)
    (mdl : p .mdl = true) (alm : p .alm = true) (ring : p .ring = true) :
    (linkPeriod s).without p = s.without p := by
  simp [linkPeriod, tw, lic, gov, fan, mdl, alm, ring]

@[simp] theorem countPeriod_without (s : State)
    (pins : p .pins = true) (time : p .time = true) (tw : p .tw = true) (ctl : p .ctl = true)
    (mast : p .mast = true) (lic : p .lic = true) (gov : p .gov = true) (zon : p .zon = true)
    (fan : p .fan = true) (mdl : p .mdl = true) (alm : p .alm = true) (ring : p .ring = true) :
    (countPeriod s).without p = s.without p := by
  unfold countPeriod; (try dsimp only); split_ifs <;> simp [pins, time, tw, ctl, mast, lic, gov, zon, fan, mdl, alm, ring]

@[simp] theorem referencePeriod_without (s : State)
    (pins : p .pins = true) (time : p .time = true) (tw : p .tw = true) (ctl : p .ctl = true)
    (mast : p .mast = true) (lic : p .lic = true) (gov : p .gov = true) (zon : p .zon = true)
    (fan : p .fan = true) (mdl : p .mdl = true) (alm : p .alm = true) (ring : p .ring = true) :
    (referencePeriod s).without p = s.without p := by
  unfold referencePeriod; (try dsimp only); split_ifs <;> simp [pins, time, tw, ctl, mast, lic, gov, zon, fan, mdl, alm, ring, foldl_without]

@[simp] theorem setRun_without (d b) (s : State)
    (pins : p .pins = true) :
    (setRun d b s).without p = s.without p := by
  simp [setRun, pins]

@[simp] theorem endLock_without (d) (s : State)
    (port : p .port = true) :
    (endLock d s).without p = s.without p := by
  unfold endLock; (try dsimp only); split_ifs <;> simp [port]

@[simp] theorem runDeasserts_without (d) (s : State)
    (pins : p .pins = true) (port : p .port = true) (tw : p .tw = true) (ctl : p .ctl = true)
    (mast : p .mast = true) (zon : p .zon = true) (alm : p .alm = true) (ring : p .ring = true) :
    (runDeasserts d s).without p = s.without p := by
  unfold runDeasserts; (try dsimp only); split_ifs <;> simp [pins, port, tw, ctl, mast, zon, alm, ring]

@[simp] theorem runAsserts_without (d) (s : State)
    (pins : p .pins = true) (tw : p .tw = true) (mast : p .mast = true) (alm : p .alm = true)
    (ring : p .ring = true) :
    (runAsserts d s).without p = s.without p := by
  unfold runAsserts; (try dsimp only); split_ifs <;> simp [pins, tw, mast, alm, ring]

@[simp] theorem setSlotLine_without (k b) (s : State)
    (pins : p .pins = true) :
    (setSlotLine k b s).without p = s.without p := by
  simp [setSlotLine, pins]

@[simp] theorem slotDeasserts_without (k) (s : State)
    (pins : p .pins = true) (tw : p .tw = true) (lic : p .lic = true) (gov : p .gov = true)
    (mdl : p .mdl = true) (alm : p .alm = true) (ring : p .ring = true) :
    (slotDeasserts k s).without p = s.without p := by
  unfold slotDeasserts; (try dsimp only); split_ifs <;> simp [pins, tw, lic, gov, mdl, alm, ring]

@[simp] theorem slotAsserts_without (k) (s : State)
    (pins : p .pins = true) (tw : p .tw = true) (lic : p .lic = true) (gov : p .gov = true)
    (mdl : p .mdl = true) (alm : p .alm = true) (ring : p .ring = true) :
    (slotAsserts k s).without p = s.without p := by
  unfold slotAsserts; (try dsimp only); split_ifs <;> simp [pins, tw, lic, gov, mdl, alm, ring]

@[simp] theorem setTrayLine_without (t b) (s : State)
    (pins : p .pins = true) :
    (setTrayLine t b s).without p = s.without p := by
  simp [setTrayLine, pins]

@[simp] theorem trayInserts_without (t) (s : State)
    (pins : p .pins = true) (tw : p .tw = true) (lic : p .lic = true) (gov : p .gov = true)
    (fan : p .fan = true) (mdl : p .mdl = true) (alm : p .alm = true) (ring : p .ring = true) :
    (trayInserts t s).without p = s.without p := by
  unfold trayInserts; (try dsimp only); split_ifs <;> simp [pins, tw, lic, gov, fan, mdl, alm, ring]

@[simp] theorem trayRemoves_without (t) (s : State)
    (pins : p .pins = true) (tw : p .tw = true) (lic : p .lic = true) (gov : p .gov = true)
    (fan : p .fan = true) (mdl : p .mdl = true) (alm : p .alm = true) (ring : p .ring = true) :
    (trayRemoves t s).without p = s.without p := by
  unfold trayRemoves; (try dsimp only); split_ifs <;> simp [pins, tw, lic, gov, fan, mdl, alm, ring]

@[simp] theorem setBypass_without (b) (s : State)
    (pins : p .pins = true) :
    (setBypass b s).without p = s.without p := by
  simp [setBypass, pins]

@[simp] theorem takeStall_without (r) (s : State)
    (tw : p .tw = true) (lic : p .lic = true) (gov : p .gov = true) (fan : p .fan = true)
    (mdl : p .mdl = true) (alm : p .alm = true) (ring : p .ring = true) :
    (takeStall r s).without p = s.without p := by
  unfold takeStall; (try dsimp only); split_ifs <;> simp [tw, lic, gov, fan, mdl, alm, ring]

@[simp] theorem tachEdge_without (r) (s : State)
    (tw : p .tw = true) (lic : p .lic = true) (gov : p .gov = true) (fan : p .fan = true)
    (mdl : p .mdl = true) (alm : p .alm = true) (ring : p .ring = true) :
    (tachEdge r s).without p = s.without p := by
  unfold tachEdge; (try dsimp only); split_ifs <;> simp [tw, lic, gov, fan, mdl, alm, ring]

@[simp] theorem setClkLine_without (b) (s : State)
    (pins : p .pins = true) :
    (setClkLine b s).without p = s.without p := by
  simp [setClkLine, pins]

end Sys2Proof.Machine
end

