-- ==== Sys2Proof/Laws/Ops.lean ====
section
/-! SUPPORT. The shared operations of Machine/Ops.lean, field by field: what each leaves as it stands. -/

namespace Sys2Proof.Machine

variable (s : State)

/-! ### publish -/

@[simp] theorem publish_pending (c r) : (publish c r s).pending = s.pending := rfl
@[simp] theorem publish_mem (c r) : (publish c r s).mem = s.mem := rfl
@[simp] theorem publish_pins (c r) : (publish c r s).pins = s.pins := rfl
@[simp] theorem publish_ldr (c r) : (publish c r s).ldr = s.ldr := rfl
@[simp] theorem publish_params (c r) : (publish c r s).params = s.params := rfl
@[simp] theorem publish_regions (c r) : (publish c r s).regions = s.regions := rfl
@[simp] theorem publish_time (c r) : (publish c r s).time = s.time := rfl
@[simp] theorem publish_port (c r) : (publish c r s).port = s.port := rfl
@[simp] theorem publish_bus (c r) : (publish c r s).bus = s.bus := rfl
@[simp] theorem publish_drop (c r) : (publish c r s).drop = s.drop := rfl
@[simp] theorem publish_ctl (c r) : (publish c r s).ctl = s.ctl := rfl
@[simp] theorem publish_mast (c r) : (publish c r s).mast = s.mast := rfl
@[simp] theorem publish_lic (c r) : (publish c r s).lic = s.lic := rfl
@[simp] theorem publish_gov (c r) : (publish c r s).gov = s.gov := rfl
@[simp] theorem publish_zon (c r) : (publish c r s).zon = s.zon := rfl
@[simp] theorem publish_fan (c r) : (publish c r s).fan = s.fan := rfl
@[simp] theorem publish_mdl (c r) : (publish c r s).mdl = s.mdl := rfl
@[simp] theorem publish_alm (c r) : (publish c r s).alm = s.alm := rfl
@[simp] theorem publish_ring (c r) : (publish c r s).ring = s.ring := rfl

/-! ### publishIfChanged -/

@[simp] theorem publishIfChanged_pending (r) (o : State) : (publishIfChanged r o s).pending = s.pending := by unfold publishIfChanged; split <;> rfl
@[simp] theorem publishIfChanged_mem (r) (o : State) : (publishIfChanged r o s).mem = s.mem := by unfold publishIfChanged; split <;> rfl
@[simp] theorem publishIfChanged_pins (r) (o : State) : (publishIfChanged r o s).pins = s.pins := by unfold publishIfChanged; split <;> rfl
@[simp] theorem publishIfChanged_ldr (r) (o : State) : (publishIfChanged r o s).ldr = s.ldr := by unfold publishIfChanged; split <;> rfl
@[simp] theorem publishIfChanged_params (r) (o : State) : (publishIfChanged r o s).params = s.params := by unfold publishIfChanged; split <;> rfl
@[simp] theorem publishIfChanged_regions (r) (o : State) : (publishIfChanged r o s).regions = s.regions := by unfold publishIfChanged; split <;> rfl
@[simp] theorem publishIfChanged_time (r) (o : State) : (publishIfChanged r o s).time = s.time := by unfold publishIfChanged; split <;> rfl
@[simp] theorem publishIfChanged_port (r) (o : State) : (publishIfChanged r o s).port = s.port := by unfold publishIfChanged; split <;> rfl
@[simp] theorem publishIfChanged_bus (r) (o : State) : (publishIfChanged r o s).bus = s.bus := by unfold publishIfChanged; split <;> rfl
@[simp] theorem publishIfChanged_drop (r) (o : State) : (publishIfChanged r o s).drop = s.drop := by unfold publishIfChanged; split <;> rfl
@[simp] theorem publishIfChanged_ctl (r) (o : State) : (publishIfChanged r o s).ctl = s.ctl := by unfold publishIfChanged; split <;> rfl
@[simp] theorem publishIfChanged_mast (r) (o : State) : (publishIfChanged r o s).mast = s.mast := by unfold publishIfChanged; split <;> rfl
@[simp] theorem publishIfChanged_lic (r) (o : State) : (publishIfChanged r o s).lic = s.lic := by unfold publishIfChanged; split <;> rfl
@[simp] theorem publishIfChanged_gov (r) (o : State) : (publishIfChanged r o s).gov = s.gov := by unfold publishIfChanged; split <;> rfl
@[simp] theorem publishIfChanged_zon (r) (o : State) : (publishIfChanged r o s).zon = s.zon := by unfold publishIfChanged; split <;> rfl
@[simp] theorem publishIfChanged_fan (r) (o : State) : (publishIfChanged r o s).fan = s.fan := by unfold publishIfChanged; split <;> rfl
@[simp] theorem publishIfChanged_mdl (r) (o : State) : (publishIfChanged r o s).mdl = s.mdl := by unfold publishIfChanged; split <;> rfl
@[simp] theorem publishIfChanged_alm (r) (o : State) : (publishIfChanged r o s).alm = s.alm := by unfold publishIfChanged; split <;> rfl
@[simp] theorem publishIfChanged_ring (r) (o : State) : (publishIfChanged r o s).ring = s.ring := by unfold publishIfChanged; split <;> rfl

/-! ### What becomes of a value that is handed to the table writer (03 R52 to R55) -/

theorem Entry.coalesces_iff (e : Entry) (a : Nat) :
    e.coalesces a = true ↔ e.target = a ∧ (e.cls = .urgent ∨ e.cls = .status) := by
  simp [Entry.coalesces]

theorem TableWriter.holdsFor_iff (t : TableWriter) (a : Nat) :
    t.holdsFor a = true ↔ ∃ e ∈ t.queue, e.target = a ∧ (e.cls = .urgent ∨ e.cls = .status) := by
  simp [TableWriter.holdsFor, Entry.coalesces_iff]

theorem TableWriter.full_iff (t : TableWriter) :
    t.full = true ↔ 16 ≤ t.queue.length ∨ t.waiting ≠ [] := by
  unfold TableWriter.full
  rw [Bool.or_eq_true, decide_eq_true_iff, show Config.queuePlaces = 16 from rfl]
  simp

theorem TableWriter.put_of_holdsFor (t : TableWriter) (cls r targets) (w : RecWord)
    (h : t.holdsFor w.target = true) : t.put cls r targets w = t.coalesce cls w := by
  simp [TableWriter.put, h]

theorem TableWriter.put_of_waits (t : TableWriter) (cls r targets) (w : RecWord)
    (h : t.holdsFor w.target = false) (hw : t.waiting.any (Waiter.holdsFor w) = true) :
    t.put cls r targets w = { t with waiting := t.waiting.map (Waiter.replace cls w) } := by
  simp [TableWriter.put, h, hw]

theorem TableWriter.put_of_full (t : TableWriter) (cls r targets) (w : RecWord)
    (h : t.holdsFor w.target = false) (hw : t.waiting.any (Waiter.holdsFor w) = false)
    (hf : t.full = true) : t.put cls r targets w = t.wait cls r targets w := by
  simp [TableWriter.put, h, hw, hf]

theorem TableWriter.put_of_room (t : TableWriter) (cls r targets) (w : RecWord)
    (h : t.holdsFor w.target = false) (hf : t.full = false) :
    t.put cls r targets w = (t.join (t.fresh cls (recordOrigin r) w)).bump := by
  have hw : t.waiting = [] := by
    by_contra hn
    exact absurd ((TableWriter.full_iff t).2 (.inr hn)) (by simp [hf])
  simp [TableWriter.put, h, hw, hf]

theorem TableWriter.putNormal_of_full (t : TableWriter) (o : Origin) (w : RecWord) (hf : t.full = true) :
    t.putNormal o w =
      TableWriter.bump { t with waiting := t.waiting ++ [Waiter.value (t.fresh .normal o w)] } := by
  simp [TableWriter.putNormal, hf]

theorem TableWriter.putNormal_of_room (t : TableWriter) (o : Origin) (w : RecWord) (hf : t.full = false) :
    t.putNormal o w = (t.join (t.fresh .normal o w)).bump := by
  simp [TableWriter.putNormal, hf]

/-! ### publishChanged -/

@[simp] theorem publishChanged_pending (r b) : (publishChanged r b s).pending = s.pending := rfl
@[simp] theorem publishChanged_mem (r b) : (publishChanged r b s).mem = s.mem := rfl
@[simp] theorem publishChanged_pins (r b) : (publishChanged r b s).pins = s.pins := rfl
@[simp] theorem publishChanged_ldr (r b) : (publishChanged r b s).ldr = s.ldr := rfl
@[simp] theorem publishChanged_params (r b) : (publishChanged r b s).params = s.params := rfl
@[simp] theorem publishChanged_regions (r b) : (publishChanged r b s).regions = s.regions := rfl
@[simp] theorem publishChanged_time (r b) : (publishChanged r b s).time = s.time := rfl
@[simp] theorem publishChanged_port (r b) : (publishChanged r b s).port = s.port := rfl
@[simp] theorem publishChanged_bus (r b) : (publishChanged r b s).bus = s.bus := rfl
@[simp] theorem publishChanged_drop (r b) : (publishChanged r b s).drop = s.drop := rfl
@[simp] theorem publishChanged_ctl (r b) : (publishChanged r b s).ctl = s.ctl := rfl
@[simp] theorem publishChanged_mast (r b) : (publishChanged r b s).mast = s.mast := rfl
@[simp] theorem publishChanged_lic (r b) : (publishChanged r b s).lic = s.lic := rfl
@[simp] theorem publishChanged_gov (r b) : (publishChanged r b s).gov = s.gov := rfl
@[simp] theorem publishChanged_zon (r b) : (publishChanged r b s).zon = s.zon := rfl
@[simp] theorem publishChanged_fan (r b) : (publishChanged r b s).fan = s.fan := rfl
@[simp] theorem publishChanged_mdl (r b) : (publishChanged r b s).mdl = s.mdl := rfl
@[simp] theorem publishChanged_alm (r b) : (publishChanged r b s).alm = s.alm := rfl
@[simp] theorem publishChanged_ring (r b) : (publishChanged r b s).ring = s.ring := rfl

/-! ### putNormal -/

@[simp] theorem putNormal_pending (o a v) : (putNormal o a v s).pending = s.pending := rfl
@[simp] theorem putNormal_mem (o a v) : (putNormal o a v s).mem = s.mem := rfl
@[simp] theorem putNormal_pins (o a v) : (putNormal o a v s).pins = s.pins := rfl
@[simp] theorem putNormal_ldr (o a v) : (putNormal o a v s).ldr = s.ldr := rfl
@[simp] theorem putNormal_params (o a v) : (putNormal o a v s).params = s.params := rfl
@[simp] theorem putNormal_regions (o a v) : (putNormal o a v s).regions = s.regions := rfl
@[simp] theorem putNormal_time (o a v) : (putNormal o a v s).time = s.time := rfl
@[simp] theorem putNormal_port (o a v) : (putNormal o a v s).port = s.port := rfl
@[simp] theorem putNormal_bus (o a v) : (putNormal o a v s).bus = s.bus := rfl
@[simp] theorem putNormal_drop (o a v) : (putNormal o a v s).drop = s.drop := rfl
@[simp] theorem putNormal_ctl (o a v) : (putNormal o a v s).ctl = s.ctl := rfl
@[simp] theorem putNormal_mast (o a v) : (putNormal o a v s).mast = s.mast := rfl
@[simp] theorem putNormal_lic (o a v) : (putNormal o a v s).lic = s.lic := rfl
@[simp] theorem putNormal_gov (o a v) : (putNormal o a v s).gov = s.gov := rfl
@[simp] theorem putNormal_zon (o a v) : (putNormal o a v s).zon = s.zon := rfl
@[simp] theorem putNormal_fan (o a v) : (putNormal o a v s).fan = s.fan := rfl
@[simp] theorem putNormal_mdl (o a v) : (putNormal o a v s).mdl = s.mdl := rfl
@[simp] theorem putNormal_alm (o a v) : (putNormal o a v s).alm = s.alm := rfl
@[simp] theorem putNormal_ring (o a v) : (putNormal o a v s).ring = s.ring := rfl

/-! ### dropReads -/

@[simp] theorem dropReads_pending (o) : (dropReads o s).pending = s.pending := rfl
@[simp] theorem dropReads_mem (o) : (dropReads o s).mem = s.mem := rfl
@[simp] theorem dropReads_pins (o) : (dropReads o s).pins = s.pins := rfl
@[simp] theorem dropReads_ldr (o) : (dropReads o s).ldr = s.ldr := rfl
@[simp] theorem dropReads_params (o) : (dropReads o s).params = s.params := rfl
@[simp] theorem dropReads_regions (o) : (dropReads o s).regions = s.regions := rfl
@[simp] theorem dropReads_time (o) : (dropReads o s).time = s.time := rfl
@[simp] theorem dropReads_port (o) : (dropReads o s).port = s.port := rfl
@[simp] theorem dropReads_bus (o) : (dropReads o s).bus = s.bus := rfl
@[simp] theorem dropReads_drop (o) : (dropReads o s).drop = s.drop := rfl
@[simp] theorem dropReads_ctl (o) : (dropReads o s).ctl = s.ctl := rfl
@[simp] theorem dropReads_mast (o) : (dropReads o s).mast = s.mast := rfl
@[simp] theorem dropReads_lic (o) : (dropReads o s).lic = s.lic := rfl
@[simp] theorem dropReads_gov (o) : (dropReads o s).gov = s.gov := rfl
@[simp] theorem dropReads_zon (o) : (dropReads o s).zon = s.zon := rfl
@[simp] theorem dropReads_fan (o) : (dropReads o s).fan = s.fan := rfl
@[simp] theorem dropReads_mdl (o) : (dropReads o s).mdl = s.mdl := rfl
@[simp] theorem dropReads_alm (o) : (dropReads o s).alm = s.alm := rfl
@[simp] theorem dropReads_ring (o) : (dropReads o s).ring = s.ring := rfl

/-! ### askRead -/

@[simp] theorem askRead_pending (o a) : (askRead o a s).pending = s.pending := by unfold askRead; split <;> rfl
@[simp] theorem askRead_mem (o a) : (askRead o a s).mem = s.mem := by unfold askRead; split <;> rfl
@[simp] theorem askRead_pins (o a) : (askRead o a s).pins = s.pins := by unfold askRead; split <;> rfl
@[simp] theorem askRead_ldr (o a) : (askRead o a s).ldr = s.ldr := by unfold askRead; split <;> rfl
@[simp] theorem askRead_params (o a) : (askRead o a s).params = s.params := by unfold askRead; split <;> rfl
@[simp] theorem askRead_regions (o a) : (askRead o a s).regions = s.regions := by unfold askRead; split <;> rfl
@[simp] theorem askRead_time (o a) : (askRead o a s).time = s.time := by unfold askRead; split <;> rfl
@[simp] theorem askRead_port (o a) : (askRead o a s).port = s.port := by unfold askRead; split <;> rfl
@[simp] theorem askRead_bus (o a) : (askRead o a s).bus = s.bus := by unfold askRead; split <;> rfl
@[simp] theorem askRead_drop (o a) : (askRead o a s).drop = s.drop := by unfold askRead; split <;> rfl
@[simp] theorem askRead_ctl (o a) : (askRead o a s).ctl = s.ctl := by unfold askRead; split <;> rfl
@[simp] theorem askRead_mast (o a) : (askRead o a s).mast = s.mast := by unfold askRead; split <;> rfl
@[simp] theorem askRead_lic (o a) : (askRead o a s).lic = s.lic := by unfold askRead; split <;> rfl
@[simp] theorem askRead_gov (o a) : (askRead o a s).gov = s.gov := by unfold askRead; split <;> rfl
@[simp] theorem askRead_zon (o a) : (askRead o a s).zon = s.zon := by unfold askRead; split <;> rfl
@[simp] theorem askRead_fan (o a) : (askRead o a s).fan = s.fan := by unfold askRead; split <;> rfl
@[simp] theorem askRead_mdl (o a) : (askRead o a s).mdl = s.mdl := by unfold askRead; split <;> rfl
@[simp] theorem askRead_alm (o a) : (askRead o a s).alm = s.alm := by unfold askRead; split <;> rfl
@[simp] theorem askRead_ring (o a) : (askRead o a s).ring = s.ring := by unfold askRead; split <;> rfl

/-! ### issueHead -/

@[simp] theorem issueHead_pending : (issueHead s).pending = s.pending := by unfold issueHead; split <;> rfl
@[simp] theorem issueHead_mem : (issueHead s).mem = s.mem := by unfold issueHead; split <;> rfl
@[simp] theorem issueHead_pins : (issueHead s).pins = s.pins := by unfold issueHead; split <;> rfl
@[simp] theorem issueHead_ldr : (issueHead s).ldr = s.ldr := by unfold issueHead; split <;> rfl
@[simp] theorem issueHead_params : (issueHead s).params = s.params := by unfold issueHead; split <;> rfl
@[simp] theorem issueHead_regions : (issueHead s).regions = s.regions := by unfold issueHead; split <;> rfl
@[simp] theorem issueHead_time : (issueHead s).time = s.time := by unfold issueHead; split <;> rfl
@[simp] theorem issueHead_port : (issueHead s).port = s.port := by unfold issueHead; split <;> rfl
@[simp] theorem issueHead_bus : (issueHead s).bus = s.bus := by unfold issueHead; split <;> rfl
@[simp] theorem issueHead_drop : (issueHead s).drop = s.drop := by unfold issueHead; split <;> rfl
@[simp] theorem issueHead_ctl : (issueHead s).ctl = s.ctl := by unfold issueHead; split <;> rfl
@[simp] theorem issueHead_mast : (issueHead s).mast = s.mast := by unfold issueHead; split <;> rfl
@[simp] theorem issueHead_lic : (issueHead s).lic = s.lic := by unfold issueHead; split <;> rfl
@[simp] theorem issueHead_gov : (issueHead s).gov = s.gov := by unfold issueHead; split <;> rfl
@[simp] theorem issueHead_zon : (issueHead s).zon = s.zon := by unfold issueHead; split <;> rfl
@[simp] theorem issueHead_fan : (issueHead s).fan = s.fan := by unfold issueHead; split <;> rfl
@[simp] theorem issueHead_mdl : (issueHead s).mdl = s.mdl := by unfold issueHead; split <;> rfl
@[simp] theorem issueHead_alm : (issueHead s).alm = s.alm := by unfold issueHead; split <;> rfl
@[simp] theorem issueHead_ring : (issueHead s).ring = s.ring := by unfold issueHead; split <;> rfl

/-! ### appendEvent -/

@[simp] theorem appendEvent_pending (k a b) : (appendEvent k a b s).pending = s.pending := by unfold appendEvent; split_ifs <;> rfl
@[simp] theorem appendEvent_mem (k a b) : (appendEvent k a b s).mem = s.mem := by unfold appendEvent; split_ifs <;> rfl
@[simp] theorem appendEvent_pins (k a b) : (appendEvent k a b s).pins = s.pins := by unfold appendEvent; split_ifs <;> rfl
@[simp] theorem appendEvent_ldr (k a b) : (appendEvent k a b s).ldr = s.ldr := by unfold appendEvent; split_ifs <;> rfl
@[simp] theorem appendEvent_params (k a b) : (appendEvent k a b s).params = s.params := by unfold appendEvent; split_ifs <;> rfl
@[simp] theorem appendEvent_regions (k a b) : (appendEvent k a b s).regions = s.regions := by unfold appendEvent; split_ifs <;> rfl
@[simp] theorem appendEvent_time (k a b) : (appendEvent k a b s).time = s.time := by unfold appendEvent; split_ifs <;> rfl
@[simp] theorem appendEvent_port (k a b) : (appendEvent k a b s).port = s.port := by unfold appendEvent; split_ifs <;> rfl
@[simp] theorem appendEvent_bus (k a b) : (appendEvent k a b s).bus = s.bus := by unfold appendEvent; split_ifs <;> rfl
@[simp] theorem appendEvent_drop (k a b) : (appendEvent k a b s).drop = s.drop := by unfold appendEvent; split_ifs <;> rfl
@[simp] theorem appendEvent_ctl (k a b) : (appendEvent k a b s).ctl = s.ctl := by unfold appendEvent; split_ifs <;> rfl
@[simp] theorem appendEvent_mast (k a b) : (appendEvent k a b s).mast = s.mast := by unfold appendEvent; split_ifs <;> rfl
@[simp] theorem appendEvent_lic (k a b) : (appendEvent k a b s).lic = s.lic := by unfold appendEvent; split_ifs <;> rfl
@[simp] theorem appendEvent_gov (k a b) : (appendEvent k a b s).gov = s.gov := by unfold appendEvent; split_ifs <;> rfl
@[simp] theorem appendEvent_zon (k a b) : (appendEvent k a b s).zon = s.zon := by unfold appendEvent; split_ifs <;> rfl
@[simp] theorem appendEvent_fan (k a b) : (appendEvent k a b s).fan = s.fan := by unfold appendEvent; split_ifs <;> rfl
@[simp] theorem appendEvent_mdl (k a b) : (appendEvent k a b s).mdl = s.mdl := by unfold appendEvent; split_ifs <;> rfl
@[simp] theorem appendEvent_alm (k a b) : (appendEvent k a b s).alm = s.alm := by unfold appendEvent; split_ifs <;> rfl

/-! ### setStatus -/

@[simp] theorem setStatus_pending (k c st o d) : (setStatus k c st o d s).pending = s.pending := rfl
@[simp] theorem setStatus_mem (k c st o d) : (setStatus k c st o d s).mem = s.mem := rfl
@[simp] theorem setStatus_pins (k c st o d) : (setStatus k c st o d s).pins = s.pins := rfl
@[simp] theorem setStatus_ldr (k c st o d) : (setStatus k c st o d s).ldr = s.ldr := rfl
@[simp] theorem setStatus_params (k c st o d) : (setStatus k c st o d s).params = s.params := rfl
@[simp] theorem setStatus_regions (k c st o d) : (setStatus k c st o d s).regions = s.regions := rfl
@[simp] theorem setStatus_time (k c st o d) : (setStatus k c st o d s).time = s.time := rfl
@[simp] theorem setStatus_port (k c st o d) : (setStatus k c st o d s).port = s.port := rfl
@[simp] theorem setStatus_bus (k c st o d) : (setStatus k c st o d s).bus = s.bus := rfl
@[simp] theorem setStatus_drop (k c st o d) : (setStatus k c st o d s).drop = s.drop := rfl
@[simp] theorem setStatus_mast (k c st o d) : (setStatus k c st o d s).mast = s.mast := rfl
@[simp] theorem setStatus_lic (k c st o d) : (setStatus k c st o d s).lic = s.lic := rfl
@[simp] theorem setStatus_gov (k c st o d) : (setStatus k c st o d s).gov = s.gov := rfl
@[simp] theorem setStatus_zon (k c st o d) : (setStatus k c st o d s).zon = s.zon := rfl
@[simp] theorem setStatus_fan (k c st o d) : (setStatus k c st o d s).fan = s.fan := rfl
@[simp] theorem setStatus_mdl (k c st o d) : (setStatus k c st o d s).mdl = s.mdl := rfl
@[simp] theorem setStatus_alm (k c st o d) : (setStatus k c st o d s).alm = s.alm := rfl
@[simp] theorem setStatus_ring (k c st o d) : (setStatus k c st o d s).ring = s.ring := rfl

/-! ### refuse -/

@[simp] theorem refuse_pending (c t r) : (refuse c t r s).pending = s.pending := rfl
@[simp] theorem refuse_mem (c t r) : (refuse c t r s).mem = s.mem := rfl
@[simp] theorem refuse_pins (c t r) : (refuse c t r s).pins = s.pins := rfl
@[simp] theorem refuse_ldr (c t r) : (refuse c t r s).ldr = s.ldr := rfl
@[simp] theorem refuse_params (c t r) : (refuse c t r s).params = s.params := rfl
@[simp] theorem refuse_regions (c t r) : (refuse c t r s).regions = s.regions := rfl
@[simp] theorem refuse_time (c t r) : (refuse c t r s).time = s.time := rfl
@[simp] theorem refuse_port (c t r) : (refuse c t r s).port = s.port := rfl
@[simp] theorem refuse_bus (c t r) : (refuse c t r s).bus = s.bus := rfl
@[simp] theorem refuse_drop (c t r) : (refuse c t r s).drop = s.drop := rfl
@[simp] theorem refuse_mast (c t r) : (refuse c t r s).mast = s.mast := rfl
@[simp] theorem refuse_lic (c t r) : (refuse c t r s).lic = s.lic := rfl
@[simp] theorem refuse_gov (c t r) : (refuse c t r s).gov = s.gov := rfl
@[simp] theorem refuse_zon (c t r) : (refuse c t r s).zon = s.zon := rfl
@[simp] theorem refuse_fan (c t r) : (refuse c t r s).fan = s.fan := rfl
@[simp] theorem refuse_mdl (c t r) : (refuse c t r s).mdl = s.mdl := rfl
@[simp] theorem refuse_alm (c t r) : (refuse c t r s).alm = s.alm := rfl
@[simp] theorem refuse_ring (c t r) : (refuse c t r s).ring = s.ring := rfl

/-! ### dropWrite -/

@[simp] theorem dropWrite_pending (d a r) : (dropWrite d a r s).pending = s.pending := rfl
@[simp] theorem dropWrite_mem (d a r) : (dropWrite d a r s).mem = s.mem := rfl
@[simp] theorem dropWrite_pins (d a r) : (dropWrite d a r s).pins = s.pins := rfl
@[simp] theorem dropWrite_ldr (d a r) : (dropWrite d a r s).ldr = s.ldr := rfl
@[simp] theorem dropWrite_params (d a r) : (dropWrite d a r s).params = s.params := rfl
@[simp] theorem dropWrite_regions (d a r) : (dropWrite d a r s).regions = s.regions := rfl
@[simp] theorem dropWrite_time (d a r) : (dropWrite d a r s).time = s.time := rfl
@[simp] theorem dropWrite_port (d a r) : (dropWrite d a r s).port = s.port := rfl
@[simp] theorem dropWrite_bus (d a r) : (dropWrite d a r s).bus = s.bus := rfl
@[simp] theorem dropWrite_ctl (d a r) : (dropWrite d a r s).ctl = s.ctl := rfl
@[simp] theorem dropWrite_mast (d a r) : (dropWrite d a r s).mast = s.mast := rfl
@[simp] theorem dropWrite_lic (d a r) : (dropWrite d a r s).lic = s.lic := rfl
@[simp] theorem dropWrite_gov (d a r) : (dropWrite d a r s).gov = s.gov := rfl
@[simp] theorem dropWrite_zon (d a r) : (dropWrite d a r s).zon = s.zon := rfl
@[simp] theorem dropWrite_fan (d a r) : (dropWrite d a r s).fan = s.fan := rfl
@[simp] theorem dropWrite_mdl (d a r) : (dropWrite d a r s).mdl = s.mdl := rfl
@[simp] theorem dropWrite_alm (d a r) : (dropWrite d a r s).alm = s.alm := rfl
@[simp] theorem dropWrite_ring (d a r) : (dropWrite d a r s).ring = s.ring := rfl

end Sys2Proof.Machine
end

