-- ==== Sys2Proof/Laws/Finish.lean ====
section
/-! SUPPORT. What follows a command's own effect (`finish`): what the giving of free queue entries, the first reads
and the grant of the port leave as it stands. -/

namespace Sys2Proof.Machine

/-! ### The ring -/

/-- The parts of the ring unit that no append touches. -/
theorem appendEvent_ring (k : Kind) (a b : Word) (s : State) :
    (appendEvent k a b s).ring.consumer = s.ring.consumer
      ∧ (appendEvent k a b s).ring.published = s.ring.published := by
  unfold appendEvent; split_ifs <;> simp [Ring.lose]

/-! ### What the queuing of a zoning operation's words keeps -/

/-- What the zoning unit's queuing of words keeps: the live bank, its generation and the results; every
control record but the status of ZONING; the ring's consumer copy and published producer. -/
structure zoningKept (s t : State) : Prop where
  bank : t.zon.liveBank = s.zon.liveBank
  gen : t.zon.liveGen = s.zon.liveGen
  results : t.zon.results = s.zon.results
  mastership : t.ctl.mastership = s.ctl.mastership
  restart : t.ctl.restart = s.ctl.restart
  alarmAck : t.ctl.alarmAck = s.ctl.alarmAck
  slots : t.ctl.slots = s.ctl.slots
  tag : t.ctl.zoning.refusedTag = s.ctl.zoning.refusedTag
  reason : t.ctl.zoning.refusedReason = s.ctl.zoning.refusedReason
  consumer : t.ring.consumer = s.ring.consumer
  published : t.ring.published = s.ring.published

theorem zoningKept.refl (s : State) : zoningKept s s := ⟨rfl, rfl, rfl, rfl, rfl, rfl, rfl, rfl, rfl, rfl, rfl⟩

theorem zoningKept.trans {s t u : State} (h : zoningKept s t) (k : zoningKept t u) : zoningKept s u :=
  ⟨k.1.trans h.1, k.2.trans h.2, k.3.trans h.3, k.4.trans h.4, k.5.trans h.5, k.6.trans h.6,
   k.7.trans h.7, k.8.trans h.8, k.9.trans h.9, k.10.trans h.10, k.11.trans h.11⟩

theorem zoningKept.after {s t u : State} (k : zoningKept t u) (h : zoningKept s t) : zoningKept s u := h.trans k

/-- An operation of the table writer alone keeps it. -/
theorem zoningKept.of_tw {s t : State} (hz : t.zon = s.zon) (hc : t.ctl = s.ctl) (hr : t.ring = s.ring) :
    zoningKept s t := by
  constructor <;> simp [hz, hc, hr]

/-- A change of the zoning unit that leaves the live bank, its generation and the results keeps it. -/
theorem zoningKept.of_zon {s : State} {z : Zoning} (hb : z.liveBank = s.zon.liveBank)
    (hg : z.liveGen = s.zon.liveGen) (hr : z.results = s.zon.results) : zoningKept s (s.setZon z) := by
  constructor <;> simp [hb, hg, hr]


theorem zoningKept.publish (c r) (s : State) : zoningKept s (publish c r s) := .of_tw rfl rfl rfl

theorem zoningKept.putNormal (o a v) (s : State) : zoningKept s (putNormal o a v s) := .of_tw rfl rfl rfl

theorem zoningKept.askRead (o a) (s : State) : zoningKept s (askRead o a s) :=
  .of_tw (askRead_zon s o a) (askRead_ctl s o a) (askRead_ring s o a)

theorem zoningKept.append (k a b) (s : State) : zoningKept s (appendEvent k a b s) := by
  obtain ⟨h1, h2⟩ := appendEvent_ring k a b s
  constructor <;> simp [h1, h2]

theorem zoningKept.status (cls st o d) (s : State) : zoningKept s (setStatus cls .zoning st o d s) := by
  constructor <;> simp [setStatus, Machine.publish, Ctls.set, ctlRec]

theorem zoningKept.ended (s : State) : zoningKept s (s.setZon s.zon.ended) := .of_zon rfl rfl rfl

theorem zoningKept.withdraw (s : State) : zoningKept s (withdrawOperation s) := by
  unfold withdrawOperation; dsimp only; split_ifs <;> exact .of_tw rfl rfl rfl

theorem zoningKept.fail (o d) (s : State) : zoningKept s (failOperation o d s) :=
  (((((zoningKept.withdraw s).trans (.putNormal _ _ _ _)).trans (.status _ _ _ _ _)).trans
    (.append _ _ _ _)).trans (.ended _)).trans (.publish _ _ _)

theorem zoningKept.zonAsk (s : State) : zoningKept s (zonAsk s) := by
  unfold Machine.zonAsk; split
  · exact .refl s
  · exact .askRead _ _ s

theorem zoningKept.noteLive (v) (s : State) : zoningKept s (noteLive v s) := .of_zon rfl rfl rfl

theorem zoningKept.queueBank (b) (s : State) : zoningKept s (queueBank b s) := by
  unfold Machine.queueBank; dsimp only
  split
  · exact (zoningKept.noteLive _ _).after (.putNormal _ _ _ s)
  · exact .putNormal _ _ _ s

theorem zoningKept.pumpWrites (n) (s : State) : zoningKept s (pumpWrites n s) := by
  induction n generalizing s with
  | zero => exact .refl s
  | succ n ih =>
    unfold Machine.pumpWrites
    split
    · exact .refl s
    · rename_i b rest _
      have h1 : zoningKept s (s.setZon { s.zon with writes := rest }) := .of_zon rfl rfl rfl
      dsimp only
      split_ifs
      · exact zoningKept.after (.of_zon rfl rfl rfl) h1
      · exact (zoningKept.queueBank b _).after h1
      · exact (ih _).after ((zoningKept.queueBank b _).after h1)

theorem zoningKept.enterFlip (s : State) : zoningKept s (enterFlip s) := by
  unfold Machine.enterFlip
  exact zoningKept.after (zoningKept.pumpWrites _ _) (.of_zon rfl rfl rfl)

theorem zoningKept.endMarking (s : State) : zoningKept s (endMarking s) := by
  unfold Machine.endMarking publishZoning; split
  · exact zoningKept.after (.publish _ _ _) (.of_zon rfl rfl rfl)
  · exact zoningKept.after (zoningKept.enterFlip _) (zoningKept.after (zoningKept.publish _ _ _) (.of_zon rfl rfl rfl))

theorem zoningKept.nextMark (s : State) : zoningKept s (nextMark s) := by
  unfold Machine.nextMark; split_ifs
  · exact .endMarking s
  · exact .fail _ _ s
  · exact .zonAsk s

theorem zoningKept.startMarking (s : State) : zoningKept s (startMarking s) := by
  unfold Machine.startMarking publishZoning
  exact zoningKept.after (zoningKept.nextMark _) (zoningKept.after (zoningKept.publish _ _ _) (.of_zon rfl rfl rfl))

theorem zoningKept.completeClone (s : State) : zoningKept s (completeClone s) :=
  (((zoningKept.status _ _ _ _ s).trans (.append _ _ _ _)).trans (.ended _)).trans (.publish _ _ _)

theorem zoningKept.queueCloneHeaders (s : State) : zoningKept s (queueCloneHeaders s) := by
  have h : zoningKept s (Machine.pumpWrites Config.pumpFuel
      (s.setZon { s.zon with writes := cloneHeaders s, after := .cloneEnd })) :=
    (zoningKept.pumpWrites _ _).after (.of_zon rfl rfl rfl)
  unfold Machine.queueCloneHeaders; dsimp only
  split_ifs
  · exact h.trans (.completeClone _)
  · exact h

theorem zoningKept.nextClone (s : State) : zoningKept s (nextClone s) := by
  unfold Machine.nextClone; split_ifs
  · exact .queueCloneHeaders s
  · exact zoningKept.after (zoningKept.zonAsk _) (.of_zon rfl rfl rfl)

theorem zoningKept.afterWords (s : State) : zoningKept s (afterWords s) := by
  unfold Machine.afterWords
  split
  · exact .refl s
  · split
    · exact .refl s
    · exact zoningKept.after (zoningKept.nextMark _) (.of_zon rfl rfl rfl)
    · exact zoningKept.after (zoningKept.nextClone _) (.of_zon rfl rfl rfl)
    · exact .completeClone s

theorem zoningKept.pump (s : State) : zoningKept s (pump s) :=
  (zoningKept.pumpWrites _ s).trans (.afterWords _)

theorem zoningKept.giveOne (s : State) : zoningKept s (giveOne s) := by
  unfold Machine.giveOne; split
  · exact .refl s
  · unfold giveValue; dsimp only
    split_ifs
    · exact zoningKept.after (zoningKept.pump _) (zoningKept.after (zoningKept.noteLive _ _) (.of_tw rfl rfl rfl))
    · exact zoningKept.after (zoningKept.pump _) (.of_tw rfl rfl rfl)
    · exact .of_tw rfl rfl rfl
  · exact .of_tw rfl rfl rfl
  · unfold givePublication; dsimp only; split
    · exact .of_tw rfl rfl rfl
    · unfold publishNext; dsimp only; split_ifs <;> exact .of_tw rfl rfl rfl

/-- The giving of free queue entries keeps what the queuing of words keeps. -/
theorem zoningKept.drain (n) (s : State) : zoningKept s (drain n s) := by
  induction n generalizing s with
  | zero => exact .refl s
  | succ n ih =>
    unfold Machine.drain; split
    · exact (zoningKept.giveOne s).trans (ih _)
    · exact .refl s

theorem zoningKept.firstRead (s : State) : zoningKept s (firstRead s) := by
  unfold Machine.firstRead; split
  · exact zoningKept.after (zoningKept.zonAsk _) (.of_zon rfl rfl rfl)
  · exact .refl s

theorem zoningKept.loaderFirst (s : State) : zoningKept s (loaderFirst s) := by
  unfold Machine.loaderFirst; split_ifs
  · exact .refl s
  · exact .askRead _ _ s
  · exact .refl s

/-! ### The grant of the port -/

/-- Accesses that wait, or are in progress, stay so when the port is granted; a side with none gets none. -/
structure portKept (s t : State) : Prop where
  presented : ∀ d a, presented s d a → presented t d a
  none : ∀ d, s.port.wait d = none → t.port.wait d = none
  zoning : zoningKept s t

theorem portKept.of_port {s t : State} (hp : t.port = s.port) (hz : zoningKept s t) : portKept s t := by
  constructor
  · intro d a h; simpa only [Machine.presented, hp] using h
  · intro d h; rw [hp]; exact h
  · exact hz

theorem zoningKept.of_port {s : State} (x) : zoningKept s (s.setPort x) := .of_tw rfl rfl rfl

theorem wait_setWait_none (q : PortArb) (d e : Side) (h : q.wait e = none) : (q.setWait none d).wait e = none := by
  cases d <;> cases e <;> simp_all [PortArb.wait, PortArb.setWait]

theorem beginSide_kept (d : Side) (s : State) (hc : s.port.current = none) : portKept s (beginSide d s) := by
  unfold beginSide; split
  · exact .of_port rfl (.refl s)
  · rename_i a ha
    refine ⟨?_, ?_, .of_port _⟩
    · intro e b hb
      rcases hb with hb | hb
      · cases d <;> cases e <;>
          simp_all [Machine.presented, PortArb.wait, PortArb.setWait]
      · rw [hc] at hb; cases hb
    · intro e he
      have := wait_setWait_none s.port d e he
      cases d <;> cases e <;> simp_all [PortArb.wait, PortArb.setWait]

theorem beginAccess_kept (r : Requester) (s : State) (hc : s.port.current = none) :
    portKept s (beginAccess r s) := by
  unfold beginAccess; split
  · exact beginSide_kept .a s hc
  · exact beginSide_kept .b s hc
  · split
    · exact .of_port rfl (.refl s)
    · refine ⟨?_, ?_, .of_port _⟩
      · intro e b hb
        rcases hb with hb | hb
        · left; cases e <;> simpa [PortArb.wait] using hb
        · rw [hc] at hb; cases hb
      · intro e he; cases e <;> simpa [PortArb.wait] using he

theorem arbitrate_kept (s : State) (hc : s.port.current = none) : portKept s (arbitrate s) := by
  unfold arbitrate; split
  · exact .of_port rfl (.refl s)
  · exact beginAccess_kept _ s hc

theorem portKept.trans {s t u : State} (h : portKept s t) (k : portKept t u) : portKept s u :=
  ⟨fun d a x => k.1 d a (h.1 d a x), fun d x => k.2 d (h.2 d x), h.3.trans k.3⟩

theorem portKept.after {s t u : State} (k : portKept t u) (h : portKept s t) : portKept s u := h.trans k

/-- Granting an idle port keeps every access that waits. -/
theorem kick_kept (s : State) : portKept s (kick s) := by
  unfold kick; split
  · exact .of_port rfl (.refl s)
  · rename_i hc
    have hc : s.port.current = none := by simpa using hc
    unfold grantIdle; split
    · exact arbitrate_kept s hc
    · rename_i d _
      split
      · exact .of_port rfl (.refl s)
      · split
        · unfold overrun
          have h1 : portKept s (s.setPort { s.port with lockCount := 0 }) := by
            refine ⟨?_, ?_, .of_port _⟩
            · intro e b hb
              rcases hb with hb | hb
              · left; cases e <;> simpa [PortArb.wait] using hb
              · right; simpa using hb
            · intro e he; cases e <;> simpa [PortArb.wait] using he
          refine (arbitrate_kept _ ?_).after ((portKept.of_port (appendEvent_port _ _ _ _) (.append _ _ _ _)).after h1)
          simp [hc]
        · exact beginSide_kept d s hc

/-! ### `finish` -/

theorem drain_port (n) (s : State) : (drain n s).port = s.port :=
  State.port_of_without (p := fun x => x == .tw || x == .ctl || x == .zon || x == .ring || x == .ldr)
    (drain_without n s rfl rfl rfl rfl rfl) rfl

theorem firstRead_port (s : State) : (firstRead s).port = s.port :=
  State.port_of_without (p := fun x => x == .tw || x == .zon) (firstRead_without s rfl rfl) rfl

theorem loaderFirst_port (s : State) : (loaderFirst s).port = s.port :=
  State.port_of_without (p := fun x => x == .tw) (loaderFirst_without s rfl) rfl

/-- What follows in an event keeps the accesses that wait, the live bank, every control record but the
status of ZONING, and the ring's consumer copy and published producer. -/
theorem finish_kept (s : State) : portKept s (finish s) := by
  unfold finish
  exact (kick_kept _).after ((portKept.of_port (loaderFirst_port _) (.loaderFirst _)).after
    ((portKept.of_port (firstRead_port _) (.firstRead _)).after
      (.of_port (drain_port _ s) (.drain _ s))))

/-- What follows in an event leaves every part but the six that it serves. -/
theorem finish_frame (s : State) :
    (finish s).pending = s.pending ∧ (finish s).mem = s.mem ∧ (finish s).pins = s.pins
      ∧ (finish s).params = s.params ∧ (finish s).regions = s.regions ∧ (finish s).time = s.time
      ∧ (finish s).bus = s.bus ∧ (finish s).drop = s.drop ∧ (finish s).mast = s.mast
      ∧ (finish s).lic = s.lic ∧ (finish s).gov = s.gov ∧ (finish s).fan = s.fan
      ∧ (finish s).mdl = s.mdl ∧ (finish s).alm = s.alm := by
  have h := finish_without
    (p := fun x => x == .tw || x == .ctl || x == .zon || x == .ring || x == .ldr || x == .port) s rfl rfl rfl
    rfl rfl rfl
  exact ⟨State.pending_of_without h rfl, State.mem_of_without h rfl, State.pins_of_without h rfl,
    State.params_of_without h rfl, State.regions_of_without h rfl, State.time_of_without h rfl,
    State.bus_of_without h rfl, State.drop_of_without h rfl, State.mast_of_without h rfl,
    State.lic_of_without h rfl, State.gov_of_without h rfl, State.fan_of_without h rfl,
    State.mdl_of_without h rfl, State.alm_of_without h rfl⟩

/-! ### The scan of an operation that has nothing to do once its words have joined -/

/-- The scan state of the zoning unit and the control records stand as they stood. -/
structure scanKept (s t : State) : Prop where
  after : t.zon.after = s.zon.after
  op : t.zon.op = s.zon.op
  susp : t.zon.susp = s.zon.susp
  pos : t.zon.pos = s.zon.pos
  entryIx : t.zon.entryIx = s.zon.entryIx
  count : t.zon.count = s.zon.count
  total : t.zon.total = s.zon.total
  masked : t.zon.masked = s.zon.masked
  empty : t.zon.empty = s.zon.empty
  used : t.zon.used = s.zon.used
  digest : t.zon.digest = s.zon.digest
  cur : t.zon.cur = s.zon.cur
  prevId : t.zon.prevId = s.zon.prevId
  snapshot : t.zon.snapshot = s.zon.snapshot
  cloneHdr : t.zon.cloneHdr = s.zon.cloneHdr
  ctl : t.ctl = s.ctl

theorem scanKept.refl (s : State) : scanKept s s := by constructor <;> rfl

theorem scanKept.trans {s t u : State} (h : scanKept s t) (k : scanKept t u) : scanKept s u := by
  constructor
  · exact k.after.trans h.after
  · exact k.op.trans h.op
  · exact k.susp.trans h.susp
  · exact k.pos.trans h.pos
  · exact k.entryIx.trans h.entryIx
  · exact k.count.trans h.count
  · exact k.total.trans h.total
  · exact k.masked.trans h.masked
  · exact k.empty.trans h.empty
  · exact k.used.trans h.used
  · exact k.digest.trans h.digest
  · exact k.cur.trans h.cur
  · exact k.prevId.trans h.prevId
  · exact k.snapshot.trans h.snapshot
  · exact k.cloneHdr.trans h.cloneHdr
  · exact k.ctl.trans h.ctl

theorem scanKept.of_eq {s t : State} (hz : t.zon = s.zon) (hc : t.ctl = s.ctl) : scanKept s t := by
  constructor <;> simp [hz, hc]

theorem scanKept.zonAsk (s : State) : scanKept s (zonAsk s) := by
  unfold Machine.zonAsk; split
  · exact .refl s
  · exact .of_eq (askRead_zon _ _ _) (askRead_ctl _ _ _)

theorem scanKept.queueBank (b) (s : State) : scanKept s (queueBank b s) := by
  unfold Machine.queueBank Machine.noteLive; dsimp only
  split <;> constructor <;> rfl

theorem scanKept.pumpWrites (n) (s : State) : scanKept s (pumpWrites n s) := by
  induction n generalizing s with
  | zero => exact .refl s
  | succ n ih =>
    unfold Machine.pumpWrites
    split
    · exact .refl s
    · rename_i b rest _
      have h1 : scanKept s (s.setZon { s.zon with writes := rest }) := by constructor <;> rfl
      dsimp only
      split_ifs
      · exact h1.trans (by constructor <;> rfl)
      · exact h1.trans (.queueBank b _)
      · exact (h1.trans (.queueBank b _)).trans (ih _)

/-- Going on with the queuing of words moves no scan when nothing is to follow them. -/
theorem scanKept.pump (s : State) (h : s.zon.after = .nothing) : scanKept s (pump s) := by
  have k := scanKept.pumpWrites Config.pumpFuel s
  have e : Machine.pump s = Machine.pumpWrites Config.pumpFuel s := by
    simp [Machine.pump, afterWords, k.after, h]
  rw [e]; exact k

theorem scanKept.giveOne (s : State) (h : s.zon.after = .nothing) : scanKept s (giveOne s) := by
  unfold Machine.giveOne; split
  · exact .refl s
  · rename_i e _
    unfold giveValue; dsimp only
    have h1 : scanKept s (s.setTw (TableWriter.joinValue
        { s.tw with waiting := s.tw.waiting.erase (.value e) } e)) := .of_eq rfl rfl
    split_ifs
    · have h2 := h1.trans (u := Machine.noteLive e.value _) (by constructor <;> rfl)
      exact h2.trans (.pump _ (h2.after.trans h))
    · exact h1.trans (.pump _ (h1.after.trans h))
    · exact h1
  · exact .of_eq rfl rfl
  · unfold givePublication; dsimp only; split
    · exact .of_eq rfl rfl
    · unfold publishNext; dsimp only; split_ifs <;> exact .of_eq rfl rfl

theorem scanKept.drain (n) (s : State) (h : s.zon.after = .nothing) : scanKept s (drain n s) := by
  induction n generalizing s with
  | zero => exact .refl s
  | succ n ih =>
    unfold Machine.drain; split
    · have k := scanKept.giveOne s h
      exact k.trans (ih _ (k.after.trans h))
    · exact .refl s

/-- What follows in an event moves no scan when nothing is to follow the operation's words. -/
theorem finish_scan (s : State) (h : s.zon.after = .nothing) : scanKept s (finish s) := by
  have h1 := scanKept.drain Config.drainFuel s h
  have h2 : scanKept (drain Config.drainFuel s) (firstRead (drain Config.drainFuel s)) := by
    unfold firstRead; split
    · exact scanKept.trans (t := (drain Config.drainFuel s).setZon
        { (drain Config.drainFuel s).zon with firstReadDue := false }) (by constructor <;> rfl) (.zonAsk _)
    · exact .refl _
  have h3 : ∀ u : State, scanKept u (kick (loaderFirst u)) := fun u => by
    have hw := kick_without (p := fun x => x == .tw || x == .ring || x == .port) (loaderFirst u) rfl rfl rfl
    have hl := loaderFirst_without (p := fun x => x == .tw) u rfl
    exact .of_eq ((State.zon_of_without hw rfl).trans (State.zon_of_without hl rfl))
      ((State.ctl_of_without hw rfl).trans (State.ctl_of_without hl rfl))
  exact (h1.trans h2).trans (h3 _)

/-! ### The loader -/

/-- The loader stands as it stood but for the place of the entry publication. -/
def loaderKept (s t : State) : Prop := t.ldr = { s.ldr with pub := t.ldr.pub }

theorem loaderKept.of_eq {s t : State} (h : t.ldr = s.ldr) : loaderKept s t := by
  unfold loaderKept; rw [h]

theorem loaderKept.trans {s t u : State} (h : loaderKept s t) (k : loaderKept t u) : loaderKept s u := by
  unfold loaderKept at *; rw [k, h]

theorem loaderKept.giveOne (s : State) : loaderKept s (giveOne s) := by
  unfold Machine.giveOne; split
  · exact .of_eq rfl
  · exact .of_eq (State.ldr_of_without (p := fun x => x == .tw || x == .ctl || x == .zon || x == .ring)
      (giveValue_without _ s rfl rfl rfl rfl) rfl)
  · exact .of_eq rfl
  · unfold givePublication; dsimp only; split
    · exact .of_eq rfl
    · unfold publishNext; dsimp only; split_ifs <;> rfl

theorem loaderKept.drain (n) (s : State) : loaderKept s (drain n s) := by
  induction n generalizing s with
  | zero => exact .of_eq rfl
  | succ n ih =>
    unfold Machine.drain; split
    · exact (loaderKept.giveOne s).trans (ih _)
    · exact .of_eq rfl

/-- What follows in an event moves the loader at most along the entry publication. -/
theorem finish_loader (s : State) : loaderKept s (finish s) := by
  have h1 := loaderKept.drain Config.drainFuel s
  refine h1.trans (.of_eq ?_)
  have hw := kick_without (p := fun x => x == .tw || x == .ring || x == .port)
    (loaderFirst (firstRead (drain Config.drainFuel s))) rfl rfl rfl
  have hl := loaderFirst_without (p := fun x => x == .tw) (firstRead (drain Config.drainFuel s)) rfl
  have hf := firstRead_without (p := fun x => x == .tw || x == .zon) (drain Config.drainFuel s) rfl rfl
  exact (State.ldr_of_without hw rfl).trans
    ((State.ldr_of_without hl rfl).trans (State.ldr_of_without hf rfl))

/-! ### With nothing waiting -/

theorem drain_nothing (n) (s : State) (h : s.tw.waiting = []) : drain n s = s := by
  cases n with
  | zero => rfl
  | succ n => simp [drain, canGive, h]

/-- With nothing waiting for a free entry and no first read due, what follows is the loader's first read
and the grant of the port. -/
theorem finish_nothing (s : State) (hw : s.tw.waiting = []) (hf : s.zon.firstReadDue = false) :
    finish s = kick (loaderFirst s) := by
  simp [finish, drain_nothing _ s hw, firstRead, hf]

/-! ### What `occur` gives -/

theorem occur_powered (f : State → State) (s : State) (h : s.pins.inReset = false) :
    occur f s = finish (f s) := by simp [occur, h]

theorem occur_reset (f : State → State) (s : State) (h : s.pins.inReset = true) : occur f s = s := by
  simp [occur, h]

/-! ### What the write queue shows -/

@[simp] theorem queueView_setZon (s : State) (x) : queueView (s.setZon x) = queueView s := rfl
@[simp] theorem queueView_setCtl (s : State) (x) : queueView (s.setCtl x) = queueView s := rfl
@[simp] theorem queueView_setPort (s : State) (x) : queueView (s.setPort x) = queueView s := rfl
@[simp] theorem queueView_setRing (s : State) (x) : queueView (s.setRing x) = queueView s := rfl
@[simp] theorem queueView_setMem (s : State) (x) : queueView (s.setMem x) = queueView s := rfl

/-- An entry that joins the queue comes last. -/
theorem queueView_join (s : State) (e : Entry) :
    queueView (s.setTw { s.tw with queue := s.tw.queue ++ [e] })
      = queueView s ++ [(e.target, e.value, e.mask, e.cls)] := by simp [queueView, State.setTw]

/-- What leaves the queue as it stands leaves its view. -/
theorem queueView_of_tw {s t : State} (h : t.tw.queue = s.tw.queue) : queueView t = queueView s := by
  simp [queueView, h]

/-! ### Failed attempts -/

/-- All that a failed attempt does to its module (10 R166, log 40). -/
theorem Module.fail_spec (o : LinkOutcome) (m : Module) :
    (m.fail o).last = o ∧ (m.fail o).reading = m.reading ∧ (m.fail o).pres = m.pres
      ∧ (m.fail o).good = m.good ∧ (m.fail o).state = m.state ∧ (m.fail o).judged = m.judged
      ∧ (m.failures ≤ 255 → (m.fail o).failures = min 255 (m.failures + 1))
      ∧ (m.failures = 2 → (m.fail o).validity = .stale)
      ∧ (m.failures ≠ 2 → (m.fail o).validity = m.validity ∧ (m.fail o).unread = m.unread) := by
  have hn : (if m.failures < 255 then m.failures + 1 else m.failures) = 3 ↔ m.failures = 2 := by
    split <;> omega
  refine ⟨rfl, rfl, rfl, rfl, rfl, rfl, fun h => ?_, fun h => ?_, fun h => ?_⟩
  · simp only [Module.fail]; split <;> omega
  · simp [Module.fail, h]
  · simp [Module.fail, hn, h]

end Sys2Proof.Machine
end

