-- ==== Sys2Proof/Laws/Link.lean ====
section
/-! SUPPORT. The levels of the link lines over what the part puts on the management link (10 R165). -/

namespace Sys2Proof.Machine

/-- The level at which what is on the link leaves LINK_DATA. -/
def linkData (d : Bool) (w : List LinkSymbol) : Bool := w.foldl (fun _ x => x.leaves) d

theorem LinkSymbol.levels_ne_nil (d : Bool) (x : LinkSymbol) : x.levels d ≠ [] := by
  cases x <;> simp [LinkSymbol.levels]

/-- A symbol leaves LINK_DATA at its last level. -/
theorem LinkSymbol.levels_getLast (d : Bool) (x : LinkSymbol) :
    (x.levels d).getLast?.map (·.data) = some x.leaves := by
  cases x <;> rfl

/-- LINK_CLK is released after every symbol. -/
theorem LinkSymbol.levels_getLast_clk (d : Bool) (x : LinkSymbol) :
    (x.levels d).getLast?.map (·.clk) = some true := by
  cases x <;> rfl

theorem linkLevels_append (d : Bool) (w v : List LinkSymbol) :
    linkLevels d (w ++ v) = linkLevels d w ++ linkLevels (linkData d w) v := by
  induction w generalizing d with
  | nil => rfl
  | cons x w ih => simp [linkLevels, linkData, ih, List.append_assoc]

/-- The lines rest where the last symbol leaves them. -/
theorem linkRest_append (w : List LinkSymbol) (x : LinkSymbol) : linkRest (w ++ [x]) = ⟨true, x.leaves⟩ := by
  cases x <;> simp [linkRest, linkLevels_append, linkLevels, LinkSymbol.levels, LinkSymbol.leaves]

theorem linkRest_nil : linkRest [] = ⟨true, true⟩ := rfl

end Sys2Proof.Machine
end

