-- ==== Sys2Proof/Laws/Memory.lean ====
section
/-! SUPPORT. Table memory: what a read gives after a write, and that every write keeps the canonical form. -/

namespace Sys2Proof.Machine

/-- A write of one byte leaves every other byte. -/
theorem Mem.read_write_ne {a c : Nat} (h : c ≠ a) (b : Byte) (m : List Host.Cell) :
    Mem.read (Mem.write a b m) c = Mem.read m c := by
  induction m with
  | nil => by_cases hb : b = Config.unwrittenByte <;> simp [Mem.write, Mem.read, hb, Ne.symm h]
  | cons x t ih =>
    obtain ⟨x, v⟩ := x
    simp only [Mem.write]
    split_ifs with h1 h2 h3 h4
    · rfl
    · simp [Mem.read, Ne.symm h]
    · simp [Mem.read, ← h3, Ne.symm h]
    · simp [Mem.read, ← h3, Ne.symm h]
    · simp only [Mem.read, ih]

/-- A raised lower bound still holds. -/
theorem Mem.wfAbove_none {lo : Option Nat} {m : List Host.Cell} (h : Mem.wfAbove lo m = true) :
    Mem.wfAbove none m = true := by
  cases m with
  | nil => rfl
  | cons x t => simp only [Mem.wfAbove, Bool.and_eq_true] at h ⊢; exact ⟨⟨trivial, h.1.2⟩, h.2⟩

/-- An address at or below the bound is not listed. -/
theorem Mem.read_below {l c : Nat} (hc : c ≤ l) (m : List Host.Cell) (h : Mem.wfAbove (some l) m = true) :
    Mem.read m c = Config.unwrittenByte := by
  induction m generalizing l with
  | nil => rfl
  | cons x t ih =>
    obtain ⟨x, v⟩ := x
    simp only [Mem.wfAbove, Bool.and_eq_true, decide_eq_true_eq] at h
    have hx : x ≠ c := by omega
    simp only [Mem.read, hx, if_false]
    exact ih (by omega : c ≤ x) h.2

theorem Mem.wfAbove_mono {l l' : Nat} (hl : l' ≤ l) {m : List Host.Cell}
    (h : Mem.wfAbove (some l) m = true) : Mem.wfAbove (some l') m = true := by
  cases m with
  | nil => rfl
  | cons x t =>
    simp only [Mem.wfAbove, Bool.and_eq_true, decide_eq_true_eq] at h ⊢
    exact ⟨⟨by omega, h.1.2⟩, h.2⟩

/-- The address above the bound, or any address when there is none. -/
def Mem.above (lo : Option Nat) (a : Nat) : Prop :=
  match lo with
  | none => True
  | some l => l < a

theorem Mem.wfAbove_cons {lo : Option Nat} {x : Nat} {v : Byte} {t : List Host.Cell} :
    Mem.wfAbove lo ((x, v) :: t) = true ↔
      Mem.above lo x ∧ v ≠ Config.unwrittenByte ∧ Mem.wfAbove (some x) t = true := by
  cases lo <;> simp [Mem.wfAbove, Mem.above, and_assoc]

theorem Mem.wfAbove_trans {lo : Option Nat} {x : Nat} (hx : Mem.above lo x) {t : List Host.Cell}
    (h : Mem.wfAbove (some x) t = true) : Mem.wfAbove lo t = true := by
  cases lo with
  | none => exact Mem.wfAbove_none h
  | some l => exact Mem.wfAbove_mono (Nat.le_of_lt hx) h

/-- A write keeps the canonical form. -/
theorem Mem.wfAbove_write {lo : Option Nat} {a : Nat} (ha : Mem.above lo a) (b : Byte) {m : List Host.Cell}
    (h : Mem.wfAbove lo m = true) : Mem.wfAbove lo (Mem.write a b m) = true := by
  induction m generalizing lo with
  | nil =>
    by_cases hb : b = Config.unwrittenByte
    · simp [Mem.write, hb, Mem.wfAbove]
    · simp only [Mem.write, hb, if_false]
      exact Mem.wfAbove_cons.mpr ⟨ha, hb, rfl⟩
  | cons x t ih =>
    obtain ⟨x, v⟩ := x
    obtain ⟨hx, hv, ht⟩ := Mem.wfAbove_cons.mp h
    simp only [Mem.write]
    split_ifs with h1 h2 h3 h4
    · exact h
    · exact Mem.wfAbove_cons.mpr ⟨ha, h2, Mem.wfAbove_cons.mpr ⟨h1, hv, ht⟩⟩
    · exact Mem.wfAbove_trans hx ht
    · exact Mem.wfAbove_cons.mpr ⟨ha, h4, h3 ▸ ht⟩
    · exact Mem.wfAbove_cons.mpr ⟨hx, hv, ih (lo := some x) (by simp only [Mem.above]; omega) ht⟩

theorem Mem.wf_write (a : Nat) (b : Byte) {m : List Host.Cell} (h : Mem.wf m = true) :
    Mem.wf (Mem.write a b m) = true := Mem.wfAbove_write (lo := none) trivial b h

theorem Mem.wf_writeLane (a : Nat) (v : Word) (k : BitVec 4) (n : Nat) {m : List Host.Cell}
    (h : Mem.wf m = true) : Mem.wf (Mem.writeLane a v k n m) = true := by
  unfold Mem.writeLane; split_ifs
  · exact Mem.wf_write _ _ h
  · exact h

/-- A word write keeps the canonical form. -/
theorem Mem.wf_writeWord (a : Nat) (v : Word) (k : BitVec 4) {m : List Host.Cell} (h : Mem.wf m = true) :
    Mem.wf (Mem.writeWord a v k m) = true :=
  Mem.wf_writeLane _ _ _ _ (Mem.wf_writeLane _ _ _ _ (Mem.wf_writeLane _ _ _ _ (Mem.wf_writeLane _ _ _ _ h)))

/-- In a memory in canonical form a written byte is read back. -/
theorem Mem.readAbove_write_same {lo : Option Nat} (a : Nat) (b : Byte) {m : List Host.Cell}
    (h : Mem.wfAbove lo m = true) : Mem.read (Mem.write a b m) a = b := by
  induction m generalizing lo with
  | nil => by_cases hb : b = Config.unwrittenByte <;> simp [Mem.write, Mem.read, hb]
  | cons x t ih =>
    obtain ⟨x, v⟩ := x
    obtain ⟨_, _, ht⟩ := Mem.wfAbove_cons.mp h
    simp only [Mem.write]
    split_ifs with h1 h2 h3 h4
    · have hx : x ≠ a := by omega
      rw [h2]; simp only [Mem.read, hx, if_false]
      exact Mem.read_below (Nat.le_of_lt h1) t ht
    · simp [Mem.read]
    · rw [h4]; exact Mem.read_below (Nat.le_of_eq h3) t ht
    · simp [Mem.read]
    · simp only [Mem.read, Ne.symm h3, if_false]; exact ih ht

theorem Mem.read_write_same (a : Nat) (b : Byte) {m : List Host.Cell} (h : Mem.wf m = true) :
    Mem.read (Mem.write a b m) a = b := Mem.readAbove_write_same (lo := none) a b h

/-- A lane write leaves every byte but its own. -/
theorem Mem.read_writeLane_ne {a c n : Nat} (h : c ≠ a + n) (v : Word) (k : BitVec 4) (m : List Host.Cell) :
    Mem.read (Mem.writeLane a v k n m) c = Mem.read m c := by
  unfold Mem.writeLane; split_ifs
  · exact Mem.read_write_ne h _ _
  · rfl

/-- A word write leaves every byte outside its four. -/
theorem Mem.read_writeWord_ne {a c : Nat} (h : c < a ∨ a + 4 ≤ c) (v : Word) (k : BitVec 4)
    (m : List Host.Cell) : Mem.read (Mem.writeWord a v k m) c = Mem.read m c := by
  simp only [Mem.writeWord]
  rw [Mem.read_writeLane_ne (by omega), Mem.read_writeLane_ne (by omega),
    Mem.read_writeLane_ne (by omega), Mem.read_writeLane_ne (by omega)]

theorem Mem.read_writeLane_same (a : Nat) (v : Word) (k : BitVec 4) (n : Nat) {m : List Host.Cell}
    (h : Mem.wf m = true) (hk : k.getLsbD n = true) :
    Mem.read (Mem.writeLane a v k n m) (a + n) = v.extractLsb' (8 * n) 8 := by
  simp only [Mem.writeLane, hk, if_true]; exact Mem.read_write_same _ _ h

theorem word_of_bytes (v : Word) :
    v.extractLsb' 24 8 ++ v.extractLsb' 16 8 ++ v.extractLsb' 8 8 ++ v.extractLsb' 0 8 = v := by
  apply BitVec.eq_of_getLsbD_eq
  intro i hi
  simp only [BitVec.getLsbD_append, BitVec.getLsbD_extractLsb']
  rcases Nat.lt_or_ge i 8 with h1 | h1
  · simp [h1]
  rcases Nat.lt_or_ge i 16 with h2 | h2
  · simp [show ¬ i < 8 by omega, show i - 8 < 8 by omega, show 8 + (i - 8) = i by omega]
  rcases Nat.lt_or_ge i 24 with h3 | h3
  · simp [show ¬ i < 8 by omega, show ¬ i - 8 < 8 by omega, show i - 8 - 8 < 8 by omega,
      show 16 + (i - 8 - 8) = i by omega]
  · simp [show ¬ i < 8 by omega, show ¬ i - 8 < 8 by omega, show ¬ i - 8 - 8 < 8 by omega,
      show i - 8 - 8 - 8 < 8 by omega, show 24 + (i - 8 - 8 - 8) = i by omega]

/-- In a memory in canonical form a word written in full is read back. -/
theorem Mem.readWord_writeWord (a : Nat) (v : Word) {m : List Host.Cell} (h : Mem.wf m = true) :
    Mem.readWord (Mem.writeWord a v 0b1111 m) a = v := by
  have h0 := Mem.wf_writeLane a v 0b1111 0 h
  have h1 := Mem.wf_writeLane a v 0b1111 1 h0
  have h2 := Mem.wf_writeLane a v 0b1111 2 h1
  have e0 := Mem.read_writeLane_same a v 0b1111 0 h (by decide)
  have e1 := Mem.read_writeLane_same a v 0b1111 1 h0 (by decide)
  have e2 := Mem.read_writeLane_same a v 0b1111 2 h1 (by decide)
  have e3 := Mem.read_writeLane_same a v 0b1111 3 h2 (by decide)
  simp only [Nat.add_zero] at e0
  simp only [Mem.readWord, Mem.writeWord]
  rw [e3, Mem.read_writeLane_ne (by omega), e2, Mem.read_writeLane_ne (by omega),
    Mem.read_writeLane_ne (by omega), e1, Mem.read_writeLane_ne (by omega),
    Mem.read_writeLane_ne (by omega), Mem.read_writeLane_ne (by omega), e0]
  exact word_of_bytes v

/-- The memory after power-on reset lists nothing and is in canonical form. -/
theorem Mem.wf_reset : Mem.wf State.reset.mem = true := rfl

end Sys2Proof.Machine
end

