-- ==== Sys2Proof/Laws/PerInstr.lean ====
section
/-! SUPPORT. A fact about every command as syntax: its check holds exactly when every byte address that it
carries is that of a whole word, and no word spells it. -/

namespace Sys2Proof

/-- The byte addresses, and the byte offset, that a command carries. -/
def Instr.addresses : Instr → List Nat
  | .upstreamRead _ addr _ _ => [addr.toNat]
  | .upstreamWrite _ addr _ _ => [addr.toNat]
  | .zewWrite _ offset _ _ => [offset.toNat]
  | _ => []

namespace Laws.Presentable

/-- A command can be presented exactly when its addresses are those of whole words (00_scope.md, Memory),
and no word spells it (98_reader.md). -/
def Statement (i : Instr) : Prop :=
  (i.wellFormed = true ↔ ∀ a ∈ i.addresses, a % 4 = 0) ∧ ∀ n w, decodeTableWord n w ≠ some i

/-- A command that carries no address is always presentable. -/
theorem of_noAddress (i : Instr) (hw : i.wellFormed = true) (ha : i.addresses = []) : Statement i := by
  simp [Statement, hw, ha, decodeTableWord]

/-- A command that carries one address is presentable when its check is the address's. -/
theorem of_oneAddress (i : Instr) (a : Nat) (hw : i.wellFormed = (a % 4 == 0)) (ha : i.addresses = [a]) :
    Statement i := by
  simp [Statement, hw, ha, decodeTableWord]

theorem pwrupResetAssert : Statement .pwrupResetAssert := of_noAddress _ rfl rfl

theorem pwrupResetDeassert (memSize : BitVec 2) (descSel : BitVec 2) :
    Statement (.pwrupResetDeassert memSize descSel) := of_noAddress _ rfl rfl

theorem upstreamRead (side : Side) (addr : BitVec 24) (burst : Bool) (lock : Bool) :
    Statement (.upstreamRead side addr burst lock) := of_oneAddress _ addr.toNat rfl rfl

theorem upstreamWrite (side : Side) (addr : BitVec 24) (data : WriteData) (lock : Bool) :
    Statement (.upstreamWrite side addr data lock) := of_oneAddress _ addr.toNat rfl rfl

theorem loadStart (side : Side) (w : WriteWord) (lock : Bool) :
    Statement (.loadStart side w lock) := of_noAddress _ rfl rfl

theorem descriptorChanged (side : Side) (word : Fin 128) (w : WriteWord) (lock : Bool) :
    Statement (.descriptorChanged side word w lock) := of_noAddress _ rfl rfl

theorem loadFirstRead : Statement .loadFirstRead := of_noAddress _ rfl rfl

theorem loadReadData (err : Bool) : Statement (.loadReadData err) := of_noAddress _ rfl rfl

theorem entryPublicationEnd : Statement .entryPublicationEnd := of_noAddress _ rfl rfl

theorem desiredOn (side : Side) (port : Port) (w : WriteWord) (lock : Bool) :
    Statement (.desiredOn side port w lock) := of_noAddress _ rfl rfl

theorem desiredOff (side : Side) (port : Port) (w : WriteWord) (lock : Bool) :
    Statement (.desiredOff side port w lock) := of_noAddress _ rfl rfl

theorem speedChange (side : Side) (port : Port) (speed : BitVec 2) (tag : Byte) (lock : Bool) :
    Statement (.speedChange side port speed tag lock) := of_noAddress _ rfl rfl

theorem heartbeat (side : Side) (w : WriteWord) (lock : Bool) :
    Statement (.heartbeat side w lock) := of_noAddress _ rfl rfl

theorem consumerIndexWrite (side : Side) (value : Word) (lock : Bool) :
    Statement (.consumerIndexWrite side value lock) := of_noAddress _ rfl rfl

theorem zewWrite (side : Side) (offset : BitVec 16) (data : WriteData) (lock : Bool) :
    Statement (.zewWrite side offset data lock) := of_oneAddress _ offset.toNat rfl rfl

theorem claim (side : Side) (tag : BitVec 16) (lock : Bool) :
    Statement (.claim side tag lock) := of_noAddress _ rfl rfl

theorem release (side : Side) (tag : BitVec 16) (lock : Bool) :
    Statement (.release side tag lock) := of_noAddress _ rfl rfl

theorem commit (side : Side) (tag : BitVec 16) (lock : Bool) :
    Statement (.commit side tag lock) := of_noAddress _ rfl rfl

theorem clone (side : Side) (tag : BitVec 16) (lock : Bool) :
    Statement (.clone side tag lock) := of_noAddress _ rfl rfl

theorem operationFirstRead : Statement .operationFirstRead := of_noAddress _ rfl rfl

theorem resume (side : Side) (tag : BitVec 16) (lock : Bool) :
    Statement (.resume side tag lock) := of_noAddress _ rfl rfl

theorem abandon (side : Side) (tag : BitVec 16) (lock : Bool) :
    Statement (.abandon side tag lock) := of_noAddress _ rfl rfl

theorem restart (side : Side) (tag : BitVec 16) (lock : Bool) :
    Statement (.restart side tag lock) := of_noAddress _ rfl rfl

theorem closingEnd : Statement .closingEnd := of_noAddress _ rfl rfl

theorem ack (side : Side) (source : Byte) (tag : BitVec 16) (lock : Bool) :
    Statement (.ack side source tag lock) := of_noAddress _ rfl rfl

theorem install (side : Side) (slot : SlotIx) (tag : BitVec 16) (lock : Bool) :
    Statement (.install side slot tag lock) := of_noAddress _ rfl rfl

theorem installReadData (err : Bool) : Statement (.installReadData err) := of_noAddress _ rfl rfl

theorem remove (side : Side) (slot : SlotIx) (tag : BitVec 16) (lock : Bool) :
    Statement (.remove side slot tag lock) := of_noAddress _ rfl rfl

theorem hourTick : Statement .hourTick := of_noAddress _ rfl rfl

theorem tick (modPres : BitVec 4) (modGood : BitVec 4) :
    Statement (.tick modPres modGood) := of_noAddress _ rfl rfl

theorem chassisSecond : Statement .chassisSecond := of_noAddress _ rfl rfl

theorem heartbeatExpiry (side : Side) : Statement (.heartbeatExpiry side) := of_noAddress _ rfl rfl

theorem runDeassert (side : Side) : Statement (.runDeassert side) := of_noAddress _ rfl rfl

theorem runAssert (side : Side) : Statement (.runAssert side) := of_noAddress _ rfl rfl

theorem bypassAssert : Statement .bypassAssert := of_noAddress _ rfl rfl

theorem bypassDeassert : Statement .bypassDeassert := of_noAddress _ rfl rfl

theorem accessEnd (errs : BitVec 4) : Statement (.accessEnd errs) := of_noAddress _ rfl rfl

theorem twWritePerformed : Statement .twWritePerformed := of_noAddress _ rfl rfl

theorem waitingValueJoins : Statement .waitingValueJoins := of_noAddress _ rfl rfl

theorem publishPendingQueued : Statement .publishPendingQueued := of_noAddress _ rfl rfl

theorem publishedProducerUpdate : Statement .publishedProducerUpdate := of_noAddress _ rfl rfl

theorem slotPresDeassert (slot : SlotIx) : Statement (.slotPresDeassert slot) := of_noAddress _ rfl rfl

theorem slotPresAssert (slot : SlotIx) : Statement (.slotPresAssert slot) := of_noAddress _ rfl rfl

theorem commitReadData (err : Bool) : Statement (.commitReadData err) := of_noAddress _ rfl rfl

theorem flipComplete : Statement .flipComplete := of_noAddress _ rfl rfl

theorem cloneReadData (err : Bool) : Statement (.cloneReadData err) := of_noAddress _ rfl rfl

theorem goodMeasurement (rotor : RotorIx) : Statement (.goodMeasurement rotor) := of_noAddress _ rfl rfl

theorem stalledMeasurement (rotor : RotorIx) : Statement (.stalledMeasurement rotor) := of_noAddress _ rfl rfl

theorem spinUpExpiry (rotor : RotorIx) : Statement (.spinUpExpiry rotor) := of_noAddress _ rfl rfl

theorem fallTimerExpiry (tray : TrayIx) : Statement (.fallTimerExpiry tray) := of_noAddress _ rfl rfl

theorem derateTimerExpiry (tray : TrayIx) : Statement (.derateTimerExpiry tray) := of_noAddress _ rfl rfl

theorem recoveryTimerExpiry (tray : TrayIx) : Statement (.recoveryTimerExpiry tray) := of_noAddress _ rfl rfl

theorem trayInsertion (tray : TrayIx) : Statement (.trayInsertion tray) := of_noAddress _ rfl rfl

theorem trayRemoval (tray : TrayIx) : Statement (.trayRemoval tray) := of_noAddress _ rfl rfl

theorem debouncedChange (mod : ModIx) (line : ModLine) : Statement (.debouncedChange mod line) := of_noAddress _ rfl rfl

theorem pollTimerExpiry : Statement .pollTimerExpiry := of_noAddress _ rfl rfl

theorem pollAttemptStart : Statement .pollAttemptStart := of_noAddress _ rfl rfl

theorem pollAttemptEnd (reply : PollReply) : Statement (.pollAttemptEnd reply) := of_noAddress _ rfl rfl

theorem arbLost (point : LinkPoint) : Statement (.arbLost point) := of_noAddress _ rfl rfl

theorem linkStuck : Statement .linkStuck := of_noAddress _ rfl rfl

theorem clearTimerExpiry (source : Source) : Statement (.clearTimerExpiry source) := of_noAddress _ rfl rfl

theorem indicatorFlash : Statement .indicatorFlash := of_noAddress _ rfl rfl

theorem tachEdge (rotor : RotorIx) : Statement (.tachEdge rotor) := of_noAddress _ rfl rfl

theorem abandonedReadData (err : Bool) : Statement (.abandonedReadData err) := of_noAddress _ rfl rfl

theorem linkBusyChange (busy : Bool) (clkLow : Bool) : Statement (.linkBusyChange busy clkLow) := of_noAddress _ rfl rfl

end Laws.Presentable

end Sys2Proof
end

