-- ==== Sys2Proof/Laws/Records.lean ====
section
/-! SUPPORT. Where the words of the published records stand: the region map alone says so. -/

namespace Sys2Proof.Machine

/-- The words of a record stand where the region map puts them, whatever they hold. -/
theorem recordTargets_congr {s t : State} (h : t.regions = s.regions) (r : RecordId) :
    recordTargets t r = recordTargets s r := by
  cases r <;> simp [recordTargets, recordWords, esaWords, fullWord, h]

theorem imagesApart_congr {s t : State} (h : t.regions = s.regions)
    (hp : descRegion t.pins = descRegion s.pins) : imagesApart t ↔ imagesApart s := by
  simp only [imagesApart, h, hp]

/-- The staging bank is clear of the published words in every state with this map and live bank. -/
theorem stagingApart_congr {s t : State} (h : t.regions = s.regions) (hb : t.zon.liveBank = s.zon.liveBank) :
    stagingApart t ↔ stagingApart s := by
  simp only [stagingApart, recordTargets_congr h, stagingBase, h, hb]

end Sys2Proof.Machine
end

