-- ==== Sys2Proof/Tests/Slice0.lean ====
section
/-! SUPPORT. Tests: ill-formed commands that the check refuses, the check values of the three CRCs, small states
that meet the hypotheses of each obligation clause by clause, and a few steps on them. -/

namespace Sys2Proof.Tests

open Sys2Proof Sys2Proof.Machine

-- One kernel evaluation at a time: each would otherwise hold a thread while it waits for the others.
set_option Elab.async false

/-! ### Well-formedness: each check refuses an ill-formed command -/

theorem test_refusesReadInsideAWord : (Instr.upstreamRead .a 2#24 false false).wellFormed = false := by
  decide

theorem test_refusesWriteInsideAWord :
    (Instr.upstreamWrite .a 5#24 (.single ⟨0, 0⟩) false).wellFormed = false := by decide

theorem test_refusesWindowOffsetInsideAWord :
    (Instr.zewWrite .b 7#16 (.single ⟨0, 0⟩) false).wellFormed = false := by decide

theorem test_acceptsWordAddresses :
    (Instr.upstreamRead .a 0xFFFFFC#24 true false).wellFormed = true
      ∧ (Instr.zewWrite .b 0xFFFC#16 (.single ⟨0, 0⟩) false).wellFormed = true := by decide

/-! ### Checks over bytes: the check values of 12 section 12.8's algorithms on "123456789" -/

/-- The bytes of "123456789". -/
def digits : List Byte := [0x31, 0x32, 0x33, 0x34, 0x35, 0x36, 0x37, 0x38, 0x39]

theorem test_crc32 : ~~~(digits.foldl crc32Byte crc32Init) = 0xCBF43926#32 := by decide +kernel

theorem test_crc16 : crc16 digits = 0x29B1#16 := by decide +kernel

theorem test_crc8 : crc8 digits = 0xF4#8 := by decide +kernel

/-! ### States -/

/-- A region map in 2 MiB, clear of DESC. -/
def map : Regions :=
  ⟨⟨0x10000, 0x10600⟩, ⟨0x20000, 0x20100⟩, ⟨0x40000, 0x40400⟩, ⟨0x110000, 0x118000⟩,
   ⟨0x100000, 0x108000⟩, ⟨0x108000, 0x110000⟩, ⟨0x50000, 0x50200⟩, ⟨0x60000, 0x60400⟩⟩

/-- Parameters with eight capable slots and a ring of 64 records. -/
def par : Params :=
  { Params.none with
    slots := Vector.replicate 8 ⟨true, 150, 300, 40, 3⟩
    trays := Vector.replicate 4 ⟨12000, 100, 0x0F⟩, mods := Vector.replicate 4 ⟨2000, 0x20⟩
    ringCapacity := 64, zoneLimit := 64, memberLimit := 1024, heartbeatTicks := 300
    spinUpTicks := 30, derateTicks := 500, pollTicks := 100, critical := 70, warn := 60 }

/-- SUPERVISING, side A master, side B eligible, every slot present, no alarm. -/
def live : State :=
  let s := State.reset.setPins { Pins.reset with runA := true, runB := true, slotPres := 0xFF }
  let s := s.setLdr { Loader.powerOn with op := .supervising, tvalid := true }
  let s := (s.setRegions map).setParams par
  let s := s.setMast ⟨some .a, 5, .running 300, .running 300, none, true⟩
  let s := s.setAlm { Alarms.powerOn with pattern := .greenSteady }
  s.setGov ({ Governor.powerOn with
    slotPresent := 0xFF, modState := Vector.replicate 4 .healthy }.recompute par)

/-- PWRUP_RESET asserted. -/
def underReset : State := State.reset.setPins { Pins.reset with inReset := true }

/-- LOADING, with the load's write not yet performed. -/
def loading : State := State.reset.setLdr { Loader.powerOn with op := .loading, awaitStart := true }

/-- `s` with an internal read of word 0, whose contents are `w`, in progress for `op`. -/
def withRead (op : Option ReadOp) (w : Word) (s : State) : State :=
  ((s.setMem (Mem.writeWord 0 w 0b1111 [])).setPort
    { s.port with current := some .twRead, owner := some .tw }).setTw
    { s.tw with read := some ⟨0, op⟩ }

/-- `s` with the entry `e` alone in the write queue and in progress on the port. -/
def withWrite (e : Entry) (s : State) : State :=
  (s.setPort { s.port with current := some (.twWrite e), owner := some .tw }).setTw
    { s.tw with queue := [e], nextId := e.id + 1 }

/-- `s` with port 5 desired ON at `speed` and effective ON, and `committed` deciwatts committed. -/
def withPortOn (speed : BitVec 2) (committed : Nat) (s : State) : State :=
  s.setGov { s.gov with
    ports := s.gov.ports.set 5 ⟨true, speed, true, .none, .pool⟩, committed := committed }

/-- `s` with the zoning unit in `op`. -/
def withZon (op : ZonState) (susp : Option ZonState) (s : State) : State :=
  s.setZon { s.zon with op := op, susp := susp }

/-- `s` with grant slot 3 as given. -/
def withSlot (g : GrantSlot) (s : State) : State :=
  s.setLic { s.lic with slots := s.lic.slots.set 3 g }

/-- `s` with rotor 2 as given. -/
def withRotor (r : Rotor) (s : State) : State :=
  s.setFan { s.fan with rotors := s.fan.rotors.set 2 r }

/-- `s` with tray 1 as given. -/
def withTray (y : Tray) (s : State) : State := s.setFan { s.fan with trays := s.fan.trays.set 1 y }

/-- `s` with module 2 as given. -/
def withModule (m : Module) (s : State) : State := s.setMdl { s.mdl with mods := s.mdl.mods.set 2 m }

/-- `s` with master side `m`. -/
def withMaster (m : Option Side) (s : State) : State := s.setMast { s.mast with master := m }

/-- `s` with the timers of both sides expired. -/
def withExpiry (eligible : Bool) (s : State) : State :=
  s.setMast { s.mast with timerA := .expired, timerB := .expired, eligible := eligible }

/-- What a next state shows. -/
def seen {α : Type} (f : State → α) : Host.Outcome State Fault Refusal → Option α
  | .next t => some (f t)
  | .fault _ => none
  | .refused _ => none

/-! ### What the states satisfy -/

theorem live_running : running live := ⟨rfl, rfl⟩

theorem live_classifying (d : Side) : classifying live d := ⟨live_running, rfl, by cases d <;> rfl⟩

theorem live_active : activeSide live .a := ⟨live_classifying .a, rfl⟩

theorem live_ccp (n : Fin 32) : ccpWordAt live n := by
  unfold ccpWordAt wordIn; revert n; decide +kernel

theorem live_pct : pctWordAt live 0 ∧ pctWordAt live 5 ∧ pctWordAt live 383 := by
  unfold pctWordAt wordIn; decide +kernel

theorem live_slots (k : SlotIx) : slotWordAt live k := by
  unfold slotWordAt wordIn; revert k; decide +kernel

theorem withRead_reading (op : Option ReadOp) (w : Word) (s : State) (h : s.pins.inReset = false) :
    reading (withRead op w s) op w :=
  ⟨h, rfl, rfl, 0, rfl, (Mem.readWord_writeWord 0 w (m := []) rfl).symm⟩

theorem withWrite_writing (e : Entry) (s : State) (h : s.pins.inReset = false) :
    writing (withWrite e s) e := by
  refine ⟨h, rfl, ?_⟩
  simp [withWrite, writeInProgress, currentEntry]

theorem live_imagesApart : imagesApart live := by unfold imagesApart; decide +kernel

/-- No published word lies on a bank header of `live`. -/
theorem live_stagingApart : stagingApart live := by
  intro r
  cases r with
  | port q => revert q; decide +kernel
  | ctlStatus c => cases c with
    | slot k => revert k; decide +kernel
    | _ => decide +kernel
  | ctlRefused c => cases c with
    | slot k => revert k; decide +kernel
    | _ => decide +kernel
  | tray y => revert y; decide +kernel
  | module i => revert i; decide +kernel
  | _ => decide +kernel

/-- Nor in a state with the same map and live bank. -/
theorem live_apart {t : State} (h : t.regions = live.regions) (hb : t.zon.liveBank = live.zon.liveBank) :
    stagingApart t := (stagingApart_congr h hb).mpr live_stagingApart

/-- The premises under which an event that is asked for is recorded: with an event before it and after it. -/
theorem test_eventAsked_met :
    (live.ldr.op = .supervising ∧ live.regions.evr.present = true
        ∧ live.params.kindMask.getLsbD Kind.mastership.code = false
        ∧ live.ring.producer < live.params.ringCapacity ∧ 3 < live.params.ringCapacity)
      ∧ seen (fun t => (t.ldr.op, t.regions == live.regions, t.params == live.params,
            (t.ring.seq - live.ring.seq).toNat, t.ring.producer)) (exec (.release .a 5 false) live)
          = some (.supervising, true, true, 2, 2) := by decide +kernel

/-- `live` without the licence slot area. -/
def unlicensed : State := live.setRegions { map with lsa := ⟨0x20000, 0x20000⟩ }

/-- The premises under which a record's words are found in the queue, and their bound. -/
theorem test_publishedRecords_met :
    imagesApart live ∧ imagesApart unlicensed ∧ (∀ n ≤ 16, roomFor live n) ∧ 16 < 17 :=
  ⟨live_imagesApart, by unfold imagesApart; decide +kernel, fun n h =>
    ⟨rfl, Nat.le_trans (Nat.le_of_eq (Nat.zero_add n)) h⟩, by decide⟩

/-! ### Witnesses: the queue, the resets and the lines -/

theorem test_EmptyQueueStepIsReferencePeriod_met :
    (live.pending = [] ∧ live.pins.inReset = false)
      ∧ (underReset.pending = [] ∧ underReset.pins.inReset = true) := by decide +kernel

theorem test_PowerUpResetLines_met :
    live.pins.inReset = false ∧ underReset.pins.inReset = true
      ∧ ∀ m d, Instr.tick 15 15 ≠ .pwrupResetDeassert m d :=
  ⟨rfl, rfl, fun _ _ => by simp⟩

theorem test_StrapsGiveMemorySizeAndDescriptorBase_met :
    (underReset.pins.inReset = true)
      ∧ (∃ t, exec .bypassAssert live = .next t) ∧ (∀ m d, Instr.bypassAssert ≠ .pwrupResetDeassert m d)
      ∧ ∀ m d : BitVec 2, ∃ x : Pins, x.memSel = m ∧ x.descSel = d :=
  ⟨rfl, ⟨_, rfl⟩, fun _ _ => by simp, fun m d => ⟨{ Pins.reset with memSel := m, descSel := d }, rfl, rfl⟩⟩

/-- `s` with one alarm from source 7. -/
def withAlarm (severity : Severity) (acked : Bool) (s : State) : State :=
  s.setAlm { s.alm with list := [⟨7, severity, 0, acked, .stopped⟩]
                        pattern := patternOf [⟨7, severity, 0, acked, .stopped⟩] }

theorem test_LinesFollowTheState_met :
    underReset.pins.inReset = true ∧ State.reset.ldr.op ≠ .supervising
      ∧ (∀ v k, running (withAlarm v k live)) ∧ running live
      ∧ (withAlarm .critical true live).alm.pattern = .redFlash
      ∧ (withAlarm .major false live).alm.pattern = .amberFlash
      ∧ (withAlarm .none false live).alm.pattern = .amberSteady
      ∧ live.alm.pattern = .greenSteady ∧ live.alm.list = []
      ∧ (∃ e ∈ (withAlarm .critical true live).alm.list, e.severity = .critical)
      ∧ (∃ e ∈ (withAlarm .minor false live).alm.list, e.severity ≠ .none ∧ e.acked = false)
      ∧ (∀ e ∈ (withAlarm .minor true live).alm.list, e.severity = .none ∨ e.acked = true) :=
  ⟨rfl, by decide, fun _ _ => ⟨rfl, rfl⟩, live_running, by decide +kernel⟩

/-- `s` with what the part has put on the link. -/
def withWire (w : List LinkSymbol) (s : State) : State := s.setMdl { s.mdl with wire := w }

theorem test_LinesFollowTheState_link_met :
    (withWire [] live).mdl.wire = [] ∧ live.pins.inReset = false ∧ (withWire [.start] live).mdl.wire = [.start]
      ∧ (∃ w, (withWire (linkTransaction 0x20 (.noAck 3)) live).mdl.wire = w ++ [.stop])
      ∧ (withWire [.start, .send false, .lost] live).mdl.wire = [.start, .send false] ++ [.lost]
      ∧ (lines (withWire [.start] State.reset)).link = ⟨true, false⟩ :=
  ⟨rfl, rfl, rfl, ⟨(linkTransaction 0x20 (.noAck 3)).dropLast, by decide +kernel⟩, rfl, by decide⟩

theorem test_SupplyAndFanLoadFigures_met :
    (∀ t : TrayIx, (par.trays[t]).maxWatts ≤ 300 ∧ live.gov.duty[t] ≤ 100)
      ∧ par.chassisBase ≤ 3000 ∧ (∀ k : SlotIx, (par.slots[k]).cardBase ≤ 600)
      ∧ (∀ i : ModIx, (par.mods[i]).capacity ≤ 6000)
      ∧ par.reserve + (live.gov.recompute par).fixedLoad ≤ (live.gov.recompute par).available
      ∧ (Governor.recompute par { live.gov with modState := Vector.replicate 4 .failed }).available
          < par.reserve
            + (Governor.recompute par { live.gov with modState := Vector.replicate 4 .failed }).fixedLoad
      ∧ (slotOf 47).val = 0 ∧ (slotOf 48).val = 1 ∧ (slotOf 383).val = 7 := by decide +kernel

theorem test_SupplyAndFanLoadFigures_draws_met :
    (∀ k : SlotIx, (live.params.slots[k]).shedRank ≤ 7) ∧ (∀ x : Port, draw live x ≤ 400)
      ∧ (0#2 = 0 ∨ 0#2 = 1) ∧ (3#2 = 2 ∨ 3#2 = 3) := by
  refine ⟨by decide +kernel, fun x => ?_, by decide⟩
  simp only [draw, drawAt]
  split <;> simp [live, par]

/-! ### Witnesses: accesses, drops, loads -/

theorem test_AccessesAreForwarded_met :
    (live.pins.inReset = false ∧ ∀ d, busBusy live d = false)
      ∧ (memSize live.pins ≤ (0x200000#24).toNat ∧ memSize live.pins ≤ (0xFFFFFF#24).toNat)
      ∧ ((0x1FFFFC#24).toNat % 4 = 0 ∧ (0x1FFFFC#24).toNat < memSize live.pins
          ∧ areaOf live (0x1FFFFC#24).toNat = .open)
      ∧ areaOf live (0x110000#24).toNat = .zew
      ∧ (live.setPins { live.pins with bypass := true }).pins.bypass = true
      ∧ (State.reset.ldr.op ≠ .supervising ∧ (descRegion State.reset.pins).holds 0x080000 = false) :=
  ⟨⟨rfl, fun d => (live_classifying d).2.2⟩, by decide +kernel⟩

/-- The address of word `i` of a burst at `a` (01 R4). -/
def burstAddr (a i : Nat) : Nat := a / 16 * 16 + (a % 16 / 4 + i) % 4 * 4

theorem test_AccessesAreForwarded_decided_met :
    (∀ d, classifying live d) ∧ ((0x10008#24).toNat % 4 = 0 ∧ (0x10008#24).toNat < memSize live.pins)
      ∧ areaOf live (0x10008#24).toNat ≠ .zew ∧ (areaOf live (0x110018#24).toNat = .zew ∧ live.zon.op ≠ .flipping)
      ∧ (∀ i, burstAddr 0x10008 i = (0x10008#24).toNat / 16 * 16 + ((0x10008#24).toNat % 16 / 4 + i) % 4 * 4)
      ∧ (decideWord .a (0x10008#24).toNat ⟨3, 15⟩ live).2.isSome = true
      ∧ (decideWord .b (0x10008#24).toNat ⟨3, 15⟩ live).2 = none
      ∧ ((decideWord .a (burstAddr 0x40008 0) ⟨1, 15⟩ live).2 = none
          ∧ (decideWord .a (burstAddr 0x40008 2) ⟨1, 15⟩ live).2.isSome = true)
      ∧ (∀ i < 4, (decideWord .b (burstAddr 0x10008 i) ⟨3, 15⟩ live).2 = none) :=
  ⟨live_classifying, by decide +kernel, by decide +kernel, by decide +kernel, fun _ => rfl,
    by decide +kernel⟩

/-- `live` with PCT and LSA larger than their least sizes. -/
def roomy : State := live.setRegions { map with pct := ⟨0x10000, 0x10800⟩, lsa := ⟨0x20000, 0x20200⟩ }

theorem test_AccessesAreForwarded_passing_met :
    (activeSide live .a ∧ pctWordAt live 0 ∧ pctWordAt live 383)
      ∧ ((0b1110#4).getLsbD 0 = false ∧ (0#32).getLsbD 0 = (live.gov.ports[(383 : Port)]).desired
          ∧ (0#32).extractLsb' 1 2 = (live.gov.ports[(383 : Port)]).speed)
      ∧ activeSide roomy .a
      ∧ (wordIn roomy .pct 0x10600 ∧ wordIn roomy .pct 0x107FC ∧ roomy.regions.pct.base + 1536 = 0x10600)
      ∧ (wordIn roomy .lsa 0x20100 ∧ wordIn roomy .lsa 0x201FC ∧ roomy.regions.lsa.base + 256 = 0x20100)
      ∧ (wordIn roomy .lsa 0x2000C ∧ roomy.regions.lsa.base + 4 * (8 * 0 + 3) = 0x2000C)
      ∧ (wordIn roomy .lsa 0x200FC ∧ roomy.regions.lsa.base + 4 * (8 * 7 + 7) = 0x200FC)
      ∧ ((roomy.lic.slots[(0 : SlotIx)]).state ≠ .installing ∧ (roomy.lic.slots[(7 : SlotIx)]).state ≠ .installing) := by
  refine ⟨⟨live_active, live_pct.1, live_pct.2.2⟩, by decide +kernel, ⟨⟨⟨rfl, rfl⟩, rfl, rfl⟩, rfl⟩, ?_⟩
  unfold wordIn; decide +kernel

/-- Grant slot 3 is INSTALLING. -/
def slotInstalling : State := withSlot ⟨.installing, none, 0, []⟩ live

theorem test_DroppedWriteIsRecorded_met :
    classifying live .a ∧ classifying live .b ∧ classifying (withMaster none live) .a
      ∧ classifying slotInstalling .a
      ∧ wordIn live .pct 0x10000 ∧ exempt live .b 0x10000 = false
      ∧ exempt (withMaster none live) .a 0x10000 = false
      ∧ wordIn live .bank 0x10FFFC ∧ wordIn live .esa 0x50000 ∧ wordIn live .evr 0x603FC
      ∧ wordIn live .desc 0x7FFFC
      ∧ wordIn live .ccp 0x40004 ∧ wordIn live .ccp 0x40064 ∧ wordIn live .ccp 0x403FC
      ∧ wordIn live .lsa 0x20004 ∧ wordIn live .lsa 0x200E8
      ∧ wordIn slotInstalling .lsa 0x2006C ∧ wordIn slotInstalling .lsa 0x2007C
      ∧ wordIn live .ccp 0x40000 ∧ wordIn live .ccp 0x40030 ∧ wordIn live .lsa 0x200E0
      ∧ sideFilter live .a 0x40000 = none ∧ sideFilter live .b 0x40000 = none
      ∧ sideFilter live .a 0x40030 = none ∧ sideFilter live .a 0x200E0 = none
      ∧ (0b0111 : BitVec 4) ≠ 0b1111 := by
  refine ⟨live_classifying _, live_classifying _, ⟨⟨rfl, rfl⟩, rfl, rfl⟩, ⟨⟨rfl, rfl⟩, rfl, rfl⟩, ?_⟩
  unfold wordIn; decide +kernel

theorem test_DroppedWriteIsRecorded_burst_met :
    (classifying live .b ∧ live.mast.master = some Side.b.other)
      ∧ (classifying (withMaster none live) .a ∧ (withMaster none live).mast.master = none)
      ∧ (0x10008#24).toNat % 4 = 0 ∧ (0x10008#24).toNat < memSize live.pins
      ∧ (∀ i, burstAddr 0x10008 i = (0x10008#24).toNat / 16 * 16 + ((0x10008#24).toNat % 16 / 4 + i) % 4 * 4)
      ∧ (∀ i < 4, exempt live .b (burstAddr 0x10008 i) = false)
      ∧ ∀ i < 4, exempt (withMaster none live) .a (burstAddr 0x10008 i) = false :=
  ⟨⟨live_classifying _, rfl⟩, ⟨⟨⟨rfl, rfl⟩, rfl, rfl⟩, rfl⟩, by decide +kernel, by decide +kernel, fun _ => rfl,
    by decide +kernel⟩

theorem test_DroppedWriteIsRecorded_owned_met :
    partOwnedAddr live .a .ccp 0x40004 ∧ partOwnedAddr live .a .ccp 0x40064
      ∧ partOwnedAddr live .a .ccp 0x403FC ∧ partOwnedAddr live .a .lsa 0x20004
      ∧ partOwnedAddr live .a .lsa 0x200E8 ∧ partOwnedAddr slotInstalling .a .lsa 0x2006C
      ∧ partOwnedAddr slotInstalling .a .lsa 0x2007C ∧ requestAddr live .ccp 0x40000
      ∧ requestAddr live .ccp 0x40030 ∧ requestAddr live .lsa 0x200E0 :=
  ⟨.inl ⟨rfl, 1, rfl, by decide⟩, .inl ⟨rfl, 25, rfl, by decide⟩, .inl ⟨rfl, 255, rfl, by decide⟩,
   .inr ⟨rfl, 0, 1, rfl, by decide, .inl rfl⟩, .inr ⟨rfl, 7, 2, rfl, by decide, .inr (.inl rfl)⟩,
   .inr ⟨rfl, 3, 3, rfl, by decide, .inr (.inr ⟨by decide, rfl⟩)⟩,
   .inr ⟨rfl, 3, 7, rfl, by decide, .inr (.inr ⟨by decide, rfl⟩)⟩,
   .inl ⟨rfl, 0, rfl, by decide⟩, .inl ⟨rfl, 12, rfl, by decide⟩, .inr ⟨rfl, 56, rfl, by decide⟩⟩

theorem test_DescriptorWritesStartAndEndLoads_met :
    (outside State.reset .b ∧ State.reset.ldr.op = .transparent ∧ State.reset.tw.waiting = []
        ∧ State.reset.tw.queue.length < 16)
      ∧ (outside loading .a ∧ loading.ldr.op = .loading ∧ loading.tw.queue.length < 16) := by
  unfold outside; decide +kernel

/-- The write that starts a load, in progress on the port. -/
def loadStarting : State :=
  loading.setPort { loading.port with
    current := some (.up .a ⟨0x7FFFC, false, true, .write [⟨.plain 0x7FFFC, 0, 0b1111, none⟩]⟩) }

theorem test_LoadReadsAreIssuedAndTaken_firstRead_met :
    loadStarting.pins.inReset = false ∧ loadStarting.ldr.op = .loading ∧ loadStarting.ldr.side = .a
      ∧ loadStarting.ldr.awaitStart = true ∧ loadStarting.ldr.position = 0 ∧ nothingWaits loadStarting
      ∧ loadStarting.tw.read = none ∧ loadStarting.tw.readList = []
      ∧ loadStarting.port.current
          = some (.up .a ⟨0x7FFFC, false, true, .write [⟨.plain 0x7FFFC, 0, 0b1111, none⟩]⟩) := by
  unfold nothingWaits; decide +kernel

/-- The loader's read of word `n` in progress. -/
def loadReading (n : Nat) (w : Word) : State :=
  withRead (some .loader) w (loading.setLdr { loading.ldr with position := n, awaitStart := false })

theorem test_LoadReadsAreIssuedAndTaken_data_met :
    (∀ n w, reading (loadReading n w) (some .loader) w) ∧ (loadReading 0 9).ldr.position < 127
      ∧ (loadReading 1 9).ldr.position = 1 ∧ (loadReading 126 9).ldr.position < 127
      ∧ 128 ≤ (loadReading 128 9).ldr.position ∧ (loadReading 511 9).ldr.position < 512 :=
  ⟨fun _ _ => withRead_reading _ _ _ rfl, by decide +kernel⟩

/-- At every position of the sequence a check error can come, and the next read be issued. -/
theorem test_LoadReadsAreIssuedAndTaken_issue_met (n : Nat) (w : Word) :
    reading (loadReading n w) (some .loader) w ∧ (loadReading n w).ldr.op = .loading
      ∧ (loadReading n w).ldr.position = n ∧ (loadReading n w).tw.readList = [] ∧ nothingWaits (loadReading n w)
      ∧ roomFor (loadReading n w) 1 ∧ ([0, 126, 128, 510, 511].all fun m => decide (m < 512 ∧ m ≠ 127)) = true :=
  ⟨withRead_reading _ _ _ rfl, rfl, rfl, rfl, ⟨rfl, rfl⟩, ⟨rfl, (by decide : 0 + 1 ≤ 16)⟩, by decide⟩

theorem test_theLastReadsAreOfPctAndTheLiveWord :
    [126, 128, 510, 511].map (fun n => seen (fun t => t.tw.read)
        (exec (.loadReadData false) ((loadReading n 3).setLdr { (loadReading n 3).ldr with candidateRegions := map })))
      = [some (some ⟨0x7FFFC, some .loader⟩), some (some ⟨0x10004, some .loader⟩),
         some (some ⟨0x105FC, some .loader⟩), some (some ⟨0x40068, some .loader⟩)] := by decide +kernel

/-- The words of a sound descriptor that are not 0, by their number. -/
def descriptorWords : List (Nat × Word) :=
  [(0, 1), (4, 0x10000), (5, 0x10600), (6, 0x20000), (7, 0x20100), (8, 0x40000), (9, 0x40400),
   (10, 0x110000), (11, 0x118000), (12, 0x100000), (13, 0x108000), (14, 0x108000), (15, 0x110000),
   (16, 0x50000), (17, 0x50200), (18, 0x60000), (19, 0x60400), (48, 0x1E060001), (49, 0x0190012C), (50, 50)]
  ++ [(51, 0x32231E14), (52, 0x6437462D), (53, 0x463C), (54, 0x01F4012C), (55, 0x00640064), (57, 64),
      (58, 0x03E80064), (59, 3), (127, 0xFFFFFFFF)]

/-- That descriptor, with the words of `repl` in place of its own. -/
def descriptor (repl : List (Nat × Word)) : List Word :=
  (List.range 128).map fun m =>
    (((repl ++ descriptorWords).find? fun x => x.1 == m).map (·.2)).getD 0

/-- The fault of that descriptor under a CRC register of 0. -/
def faultOf (repl : List (Nat × Word)) : Option (Verdict × Nat) :=
  descriptorFault Pins.reset 0 (descriptor repl)

theorem test_DescriptorIsJudgedAndClamped_met :
    faultOf [(127, 0)] = some (.badCrc, 0) ∧ faultOf [(0, 0x10002)] = some (.badVersion, 0)
      ∧ faultOf [] = none ∧ faultOf [(5, 0x105C0)] = some (.badRegion, 0)
      ∧ faultOf [(7, 0x20000)] = none ∧ faultOf [(7, 0x200C0)] = some (.badRegion, 1)
      ∧ faultOf [(9, 0x40440)] = some (.badRegion, 2) ∧ faultOf [(19, 0x60440)] = some (.badRegion, 7)
      ∧ faultOf [(17, 0x60040)] = some (.badRegion, 6) ∧ faultOf [(5, 0x20040)] = some (.badRegion, 0)
      ∧ faultOf [(51, 0x32236514)] = some (.badCurve, 0) ∧ faultOf [(51, 0x32141E14)] = some (.badCurve, 1)
      ∧ faultOf [(52, 0x3137462D)] = some (.badCurve, 3)
      ∧ faultOf [(19, 0x600C0), (57, 12)] = some (.badLimit, 0)
      ∧ faultOf [(58, 0x03E80000)] = some (.badLimit, 1) ∧ faultOf [(58, 1)] = some (.badLimit, 2)
      ∧ faultOf [(48, 0x1E060003)] = some (.badLimit, 3)
      ∧ faultOf [(48, 0x1E060201)] = some (.badLimit, 4) := by decide +kernel

theorem test_DescriptorIsJudgedAndClamped_fields_met (img : List Word) (n : Nat) :
    imageWord img n = img[n]?.getD 0 := by simp [imageWord]

/-- A descriptor with a different value in every byte of words 2, 3 and 20 to 60, as its parameters. -/
theorem test_imageParams_reads_the_fields :
    let img := (List.range 128).map fun n => BitVec.ofNat 32 (n * 0x01010101 + 0x00400080)
    (imageParams img).serial = 0x0343038302420282 ∧ (imageParams img).slots[(0 : SlotIx)] = ⟨false, 0x1494, 0x1454, 0x1595, 0x55⟩
      ∧ (imageParams img).trays[(3 : TrayIx)] = ⟨0x2AAA, 0x2A6A, 0xAB⟩
      ∧ (imageParams img).mods[(3 : ModIx)] = ⟨0x2FAF, 0x6F⟩ ∧ (imageParams img).baseGroups = 0x3CBC3B7B3BBB := by
  decide +kernel

/-- The last descriptor word's read in progress. -/
def lastWordRead (w : Word) : State :=
  withRead (some .loader) w (loading.setLdr { loading.ldr with
    position := 127, awaitStart := false, image := (descriptor []).take 127, crc := 0 })

theorem test_LoadReadsAreIssuedAndTaken_last_met :
    (∀ w, reading (lastWordRead w) (some .loader) w) ∧ (lastWordRead 0).ldr.op = .loading
      ∧ (lastWordRead 0).ldr.position = 127
      ∧ descriptorFault (lastWordRead 0).pins (lastWordRead 0).ldr.crc ((lastWordRead 0).ldr.image ++ [0])
          = some (.badCrc, 0)
      ∧ descriptorFault (lastWordRead 0).pins (lastWordRead 0).ldr.crc
          ((lastWordRead 0).ldr.image ++ [0xFFFFFFFF]) = none
      ∧ (lastWordRead 0).tw.readList = [] ∧ (lastWordRead 0).tw.waiting = []
      ∧ (lastWordRead 0).tw.queue.length < 16 :=
  ⟨fun _ => withRead_reading _ _ _ rfl, by decide +kernel⟩

/-- The live word's read in progress, RUN_A as given. -/
def entering (run : Bool) (w : Word) : State :=
  (loadReading 512 w).setPins { Pins.reset with runA := run }

theorem test_LiveWordEntersSupervising_met :
    (∀ run w, reading (entering run w) (some .loader) w) ∧ (entering true 1).ldr.position = 512
      ∧ runLine (entering true 0x70001).pins (entering true 0x70001).ldr.side = true
      ∧ runLine (entering false 2).pins (entering false 2).ldr.side = false :=
  ⟨fun run w => ⟨rfl, rfl, rfl, 0, rfl, (withRead_reading (some .loader) w loading rfl).2.2.2.elim
    fun _ _ => (Mem.readWord_writeWord 0 w (m := []) rfl).symm⟩, by decide +kernel⟩

/-- The live word's read in progress: ports 0 and 383 wanted, tray 1 and module 2 fitted, RUN_A asserted. -/
def enteringWith : State :=
  let f : List PctFields := ⟨true, 2⟩ :: List.replicate 382 ⟨false, 0⟩ ++ [⟨true, 1⟩]
  let s := (loadReading 512 0x70001).setPins { Pins.reset with runA := true, slotPres := 0xFF, trayPres := 2 }
  let s := s.setLdr { s.ldr with candidate := { par with baseGroups := 1 }, candidateRegions := map, pctImage := f }
  withModule { Module.powerOn with pres := ⟨true, 0, false⟩ } s

theorem enteringWith_atRest : unitsAtRest enteringWith := fun _ =>
  ⟨rfl, rfl, rfl, rfl, rfl, rfl, rfl, by decide +kernel, rfl, rfl, rfl,
    fun r h => .inr (by rw [← Option.some.inj (show some (⟨0, some .loader⟩ : OutRead) = some r from h)]),
    fun _ h => absurd h List.not_mem_nil⟩

theorem test_LiveWordEntersSupervising_units_met :
    reading enteringWith (some .loader) 0x70001 ∧ enteringWith.ldr.op = .loading
      ∧ enteringWith.ldr.position = 512 ∧ unitsAtRest enteringWith
      ∧ (enteringWith.pins.slotPres.getLsbD (383 / 48) && (par.slots[slotOf 383]).capable
          && (enteringWith.ldr.pctImage[383]?.any fun f => f.desired)) = true
      ∧ (enteringWith.ldr.candidate.baseGroups.getLsbD (0 / 8) = true
          ∧ enteringWith.ldr.candidate.baseGroups.getLsbD (383 / 8) = false)
      ∧ ((enteringWith.mdl.mods[(2 : ModIx)]).pres.level = true
          ∧ ∀ j : ModIx, j < 2 → (enteringWith.mdl.mods[j]).pres.level = false) :=
  ⟨⟨rfl, rfl, rfl, 0, rfl, (Mem.readWord_writeWord 0 0x70001 (m := []) rfl).symm⟩, rfl, rfl, enteringWith_atRest,
    by decide +kernel⟩

theorem test_LiveWordEntersSupervising_publication_met :
    live.regions.lsa.base ≠ live.regions.lsa.limit ∧ unlicensed.regions.lsa.base = unlicensed.regions.lsa.limit
      ∧ pubCount live = 779 ∧ pubCount unlicensed = 763
      ∧ ([(0, 1), (20, 26), (21, 27), (22, 28), (23, 29), (249, 255)].all fun x =>
          (pubWord live x.1).target == live.regions.ccp.base + 4 * x.2) = true := by decide +kernel

/-! ### Witnesses: ports and mastership -/

theorem test_DesiredChangesMovePorts_met :
    (activeSide live .a ∧ pctWordAt live 383 ∧ (live.gov.ports[(383 : Port)]).desired = false
        ∧ slotUp live.params live.gov (slotOf 383) = true)
      ∧ activeSide (withPortOn 0 150 live) .a ∧ pctWordAt (withPortOn 0 150 live) 5
      ∧ ((withPortOn 0 150 live).gov.ports[(5 : Port)]).desired = true
      ∧ slotUp live.params (withPortOn 0 150 live).gov (slotOf 5) = true :=
  ⟨⟨live_active, live_pct.2.2, by decide +kernel⟩, ⟨⟨⟨rfl, rfl⟩, rfl, rfl⟩, rfl⟩, live_pct.2.1,
    by decide +kernel⟩

/-- Side A is master, every group is licensed or the pool has `n` licences, and `committed` deciwatts are
committed. -/
def admitting (base : Bool) (n committed : Nat) : State :=
  (live.setLic { live.lic with base := if base then -1 else 0, poolTotal := n }).setGov
    { live.gov with committed := committed }

theorem test_DesiredChangesMovePorts_admits_met :
    (∀ b n c, activeSide (admitting b n c) .a ∧ pctWordAt (admitting b n c) 383)
      ∧ (admitting true 0 76615).gov.held = []
      ∧ ((admitting true 0 76615).gov.ports[(383 : Port)]).desired = false
      ∧ figuresSettled (admitting true 0 76615) ∧ figuresSettled (admitting false 1 0)
      ∧ slotUp par (admitting true 0 76615).gov (slotOf 383) = true
      ∧ (admitting true 0 76615).gov.thermal.getLsbD (slotOf 383).val = false
      ∧ groupLicensed (admitting true 0 76615).lic 383 = true
      ∧ groupLicensed (admitting false 1 0).lic 383 = false
      ∧ (admitting false 1 0).lic.pool.length < (admitting false 1 0).lic.poolTotal
      ∧ 0 + drawAt par 383 0 + par.margin ≤ live.gov.headroomDw
      ∧ 76615 + drawAt par 383 ((0#32).extractLsb' 1 2) + par.margin ≤ live.gov.headroomDw := by
  refine ⟨fun _ _ _ => ⟨⟨⟨⟨rfl, rfl⟩, rfl, rfl⟩, rfl⟩, live_pct.2.2⟩, rfl, by decide +kernel, ⟨rfl, ?_⟩, ⟨rfl, ?_⟩, ?_⟩
    <;> decide +kernel

/-- Side A is master and every port is desired OFF in its present, capable slot. -/
def unrequested : State :=
  live.setGov { live.gov with ports := Vector.replicate 384 ⟨false, 0, false, .notRequested, .none⟩ }

theorem test_DesiredChangesMovePorts_published_met :
    (activeSide unrequested .a ∧ pctWordAt unrequested 5 ∧ figuresSettled unrequested ∧ imagesApart unrequested
        ∧ roomFor unrequested 8)
      ∧ (unrequested.gov.held = [] ∧ (unrequested.gov.ports[(5 : Port)]).desired = false
          ∧ (unrequested.gov.ports[(5 : Port)]).reason = .notRequested
          ∧ slotUp unrequested.params unrequested.gov (slotOf 5) = true)
      ∧ (figuresSettled (withPortOn 0 150 live) ∧ imagesApart (withPortOn 0 150 live)
          ∧ roomFor (withPortOn 0 150 live) 8 ∧ (withPortOn 0 150 live).gov.held = []
          ∧ ((withPortOn 0 150 live).gov.ports[(5 : Port)]).effective = true) :=
  ⟨⟨⟨⟨⟨rfl, rfl⟩, rfl, rfl⟩, rfl⟩, live_pct.2.1, ⟨rfl, by decide +kernel⟩, live_imagesApart, rfl, by decide +kernel⟩,
    by decide +kernel, ⟨rfl, by decide +kernel⟩, live_imagesApart, ⟨rfl, by decide +kernel⟩, by decide +kernel⟩

theorem test_SpeedChangeIsTested_met :
    (∀ c, activeSide (withPortOn 0 c live) .a ∧ pctWordAt (withPortOn 0 c live) 5)
      ∧ ((withPortOn 0 150 live).gov.ports[(5 : Port)]).desired = true
      ∧ ((withPortOn 0 150 live).gov.ports[(5 : Port)]).speed ≠ 1
      ∧ figuresSettled (withPortOn 0 150 live) ∧ figuresSettled (withPortOn 0 76800 live)
      ∧ drawAt par 5 1 = draw (withPortOn 0 150 live) 5 ∧ drawAt par 5 2 ≠ draw (withPortOn 0 150 live) 5
      ∧ 76650 - 150 + drawAt par 5 2 ≤ live.gov.headroomDw
      ∧ live.gov.headroomDw < 76651 - 150 + drawAt par 5 2 := by
  refine ⟨fun _ => ⟨⟨⟨⟨rfl, rfl⟩, rfl, rfl⟩, rfl⟩, live_pct.2.1⟩, by decide +kernel, by decide +kernel,
    ⟨rfl, ?_⟩, ⟨rfl, ?_⟩, ?_⟩ <;> decide +kernel

theorem test_SlotLinesMovePorts_met :
    running live ∧ live.pins.slotPres.getLsbD 7 = true
      ∧ running (live.setPins { live.pins with slotPres := 0 })
      ∧ (live.setPins { live.pins with slotPres := 0 }).pins.slotPres.getLsbD 0 = false
      ∧ (live.params.slots[(0 : SlotIx)]).capable = true
      ∧ ((withPortOn 0 0 live).gov.ports[(5 : Port)]).desired = true ∧ slotOf 5 = 0 :=
  ⟨⟨rfl, rfl⟩, by decide +kernel, ⟨rfl, rfl⟩, by decide +kernel⟩

/-- `s` with port 5 held, its slot in the thermal hold set as given, and `committed` deciwatts committed. -/
def withHeld (thermal : BitVec 8) (poolTotal committed : Nat) (s : State) : State :=
  (s.setGov { s.gov with
    ports := s.gov.ports.set 5 ⟨true, 1, false, .power, .none⟩
    held := [5], thermal := thermal, committed := committed }).setLic { s.lic with poolTotal := poolTotal }

theorem test_SettleShedsThenAdmits_met :
    (∀ k : SlotIx, (par.slots[k]).shedRank ≤ 7)
      ∧ (withPortOn 0 150 live).gov.committed ≤ (withPortOn 0 150 live).gov.headroomDw
      ∧ (withPortOn 0 90000 live).gov.headroomDw < (withPortOn 0 90000 live).gov.committed
      ∧ (shedOrder par).filter (fun q => ((withPortOn 0 90000 live).gov.ports[q]).effective) = [5]
      ∧ (withHeld 1 0 0 live).gov.thermal.getLsbD (slotOf 5).val = true
      ∧ (withHeld 2 0 0 live).gov.thermal.getLsbD (slotOf 5).val = false
      ∧ groupLicensed (withHeld 2 0 0 live).lic 5 = false
      ∧ (withHeld 2 0 0 live).lic.poolTotal ≤ (withHeld 2 0 0 live).lic.pool.length
      ∧ (withHeld 2 1 0 live).lic.pool.length < (withHeld 2 1 0 live).lic.poolTotal
      ∧ groupLicensed { live.lic with base := 1 } 5 = true
      ∧ (withHeld 2 1 90000 live).gov.headroomDw
          < (withHeld 2 1 90000 live).gov.committed + draw (withHeld 2 1 90000 live) 5 + par.margin
      ∧ (withHeld 2 1 0 live).gov.committed + draw (withHeld 2 1 0 live) 5 + par.margin
          ≤ (withHeld 2 1 0 live).gov.headroomDw
      ∧ (1#8).getLsbD (slotOf 5).val = true
      ∧ ((withPortOn 0 150 live).gov.ports[(5 : Port)]).effective = true := by decide +kernel

theorem test_SettleShedsThenAdmits_published_met :
    roomFor (withHeld 2 0 0 live) 1
      ∧ ((walkStep (withHeld 2 0 0 live, 0) 5).1.gov.ports[(5 : Port)])
          ≠ ((withHeld 2 0 0 live).gov.ports[(5 : Port)]) :=
  ⟨⟨rfl, by decide +kernel⟩, by decide +kernel⟩

/-- Port 5, SHED and held, with a licence and room to be admitted. -/
def restorable : State :=
  let s := withHeld 2 1 0 live
  s.setGov { s.gov with ports := s.gov.ports.set 5 ⟨true, 1, false, .shed, .none⟩ }

theorem restorable_ports (q : Port) :
    restorable.gov.ports[q] = if q = 5 then ⟨true, 1, false, .shed, .none⟩ else PortEntry.powerOn := by
  simp only [restorable, withHeld, live, Governor.recompute, Governor.powerOn, State.setGov_gov, State.setLic_gov,
    Fin.getElem_fin, Vector.getElem_set, Vector.getElem_replicate]
  by_cases h : q = 5
  · simp [h]
  · have h5 : ¬5 = q.val := fun e => h (Fin.ext e.symm)
    simp [h, h5]

theorem restorable_heldListLaw : heldListLaw restorable := by
  have hh : restorable.gov.held = [5] := rfl
  have hs : slotUp restorable.params restorable.gov (slotOf 5) = true := by decide +kernel
  refine ⟨by rw [hh]; decide, fun q => ?_, fun q h => ?_⟩ <;> rw [restorable_ports] at *
  · by_cases hq : q = 5
    · subst hq; simp [hh, hs]
    · simp [hh, hq, PortEntry.powerOn]
  · by_cases hq : q = 5 <;> simp [hq, PortEntry.powerOn] at h

theorem test_SettleShedsThenAdmits_events_met :
    (withPortOn 0 90000 live).ldr.op = .supervising ∧ heldListLaw restorable
      ∧ allPorts.countP (fun q => (restorable.gov.ports[q]).reason == .shed && restorable.gov.held.contains q
          && ((admissionWalk restorable).gov.ports[q]).effective) = 1 :=
  ⟨rfl, restorable_heldListLaw, by decide +kernel⟩

theorem test_DesiredChangesMovePorts_heldOff_met :
    activeSide (withHeld 2 0 0 live) .a ∧ pctWordAt (withHeld 2 0 0 live) 5
      ∧ figuresSettled (withHeld 2 0 0 live) ∧ imagesApart (withHeld 2 0 0 live) ∧ roomFor (withHeld 2 0 0 live) 8
      ∧ (∀ x ∈ (withHeld 2 0 0 live).gov.held, x = 5)
      ∧ ((withHeld 2 0 0 live).gov.ports[(5 : Port)]).desired = true
      ∧ ((withHeld 2 0 0 live).gov.ports[(5 : Port)]).effective = false :=
  ⟨⟨⟨⟨rfl, rfl⟩, rfl, rfl⟩, rfl⟩, live_pct.2.1, ⟨rfl, by decide +kernel⟩, live_imagesApart, ⟨rfl, by decide +kernel⟩,
    by decide +kernel⟩

/-- Side B has a claim pending. -/
def claimed : State := live.setMast { live.mast with claim := some ⟨.b, 9⟩ }

theorem test_HeartbeatTimersRunAndExpire_met :
    (∀ d, classifying live d ∧ ccpWordAt live (heartbeatNo d))
      ∧ (∀ e, running (withExpiry e live) ∧ (withExpiry e live).mast.timer .a = .expired
          ∧ (withExpiry e live).mast.timer .b = .expired ∧ (withExpiry e live).mast.eligible = e
          ∧ (withExpiry e live).mast.master = some .a ∧ (withExpiry e live).mast.claim = none
          ∧ (withExpiry e live).tw.waiting = [])
      ∧ (some Side.a : Option Side) ≠ some .b
      ∧ (running (withExpiry false claimed) ∧ (withExpiry false claimed).mast.timer .a = .expired
          ∧ (withExpiry false claimed).mast.eligible = false
          ∧ (withExpiry false claimed).mast.claim = some ⟨Side.a.other, 9⟩)
      ∧ (∀ op susp, (withZon op susp (withExpiry true live)).mast = (withExpiry true live).mast
          ∧ (withZon op susp (withExpiry true live)).zon.op = op) :=
  ⟨fun d => ⟨live_classifying d, by cases d <;> [exact live_ccp 24; exact live_ccp 25]⟩,
    fun _ => ⟨⟨rfl, rfl⟩, rfl, rfl, rfl, rfl, rfl, rfl⟩, by decide,
    ⟨⟨rfl, rfl⟩, rfl, rfl, rfl⟩, fun _ _ => ⟨rfl, rfl⟩⟩

theorem test_HeartbeatTimersRunAndExpire_standby_met :
    (running (withExpiry true live) ∧ (withExpiry true live).mast.timer .b = .expired
        ∧ (withExpiry true live).mast.master ≠ some .b ∧ (withExpiry true live).mast.eligible = true)
      ∧ (running (withMaster none (withExpiry false live))
          ∧ (withMaster none (withExpiry false live)).mast.master ≠ some .b)
      ∧ imagesApart (withExpiry true live) ∧ roomFor (withExpiry true live) 1 :=
  ⟨⟨⟨rfl, rfl⟩, rfl, by decide, rfl⟩, ⟨⟨rfl, rfl⟩, by decide⟩, live_imagesApart, rfl, by decide +kernel⟩

/-- Side A is master with B's RUN line as given, its timer as given, and not eligible. -/
def standby (run : Bool) (timer : Timer) : State :=
  (live.setMast { live.mast with timerB := timer, eligible := false }).setPins { live.pins with runB := run }

theorem test_HeartbeatTimersRunAndExpire_eligible_met :
    (classifying (standby true .stopped) .b ∧ ccpWordAt (standby true .stopped) 25
        ∧ runLine (standby true .stopped).pins .b = true
        ∧ (standby true .stopped).mast.master = some Side.b.other
        ∧ imagesApart (standby true .stopped) ∧ roomFor (standby true .stopped) 1)
      ∧ runLine (standby false .stopped).pins .b = false
      ∧ seen (fun t => (t.mast.eligible, t.mast.timerB)) (exec (.heartbeat .b ⟨0, 15⟩ false) (standby true .stopped))
          = some (true, .running 300)
      ∧ seen (fun t => t.mast.eligible) (exec (.runAssert .b) (standby false (.running 9))) = some true :=
  ⟨⟨⟨⟨rfl, rfl⟩, rfl, rfl⟩, live_ccp 25, rfl, rfl, live_imagesApart, rfl, by decide +kernel⟩, rfl,
    by decide +kernel, by decide +kernel⟩

theorem test_activeTimerGoesOnOrStarts :
    activeTimer live .b = .running 300 ∧ activeTimer (standby true .stopped) .b = .running 300
      ∧ activeTimer (standby true (.running 9)) .b = .running 9 := by decide +kernel

theorem test_RunLinesMoveMastership_met :
    (running live ∧ runLine live.pins .a = true ∧ live.mast.master = some .a ∧ live.mast.eligible = true)
      ∧ ((withExpiry false live).mast.eligible = false ∧ (withExpiry false live).mast.claim = none
          ∧ runLine (withExpiry false live).pins .a = true ∧ (withExpiry false live).tw.waiting = [])
      ∧ ((withExpiry false claimed).mast.eligible = false
          ∧ (withExpiry false claimed).mast.claim = some ⟨Side.a.other, 9⟩
          ∧ runLine (withExpiry false claimed).pins .a = true)
      ∧ (runLine claimed.pins .b = true ∧ claimed.mast.master = some Side.b.other
          ∧ claimed.mast.claim = some ⟨.b, 9⟩)
      ∧ (running (live.setPins { live.pins with runB := false })
          ∧ runLine (live.setPins { live.pins with runB := false }).pins .b = false) :=
  ⟨⟨⟨rfl, rfl⟩, rfl, rfl, rfl⟩, ⟨rfl, rfl, rfl, rfl⟩, ⟨rfl, rfl, rfl⟩, ⟨rfl, rfl, rfl⟩, ⟨rfl, rfl⟩, rfl⟩

/-- A lock sequence of side A in TRANSPARENT, with the access in progress and side B's waiting as given. -/
def locked (mode : ArbMode) (current : Option Current) (b : Option Access) : State :=
  (State.reset.setPins { Pins.reset with runA := true }).setPort { PortArb.powerOn with
    owner := some .spa, lockCount := 3, mode := mode, current := current, waitB := b }

theorem test_RunLinesMoveMastership_lock_met (mode : ArbMode) (c : Option Current) (b : Option Access) :
    (locked mode c b).pins.inReset = false ∧ runLine (locked mode c b).pins .a = true
      ∧ (locked mode c b).port.lockCount ≠ 0 ∧ (locked mode c b).port.owner = some (.ofSide .a)
      ∧ (locked mode c b).ldr.op = .transparent ∧ nothingWaits (locked mode c b)
      ∧ requesting (locked mode c b) .tw = false ∧ (locked mode c b).port.wait .a = none
      ∧ (locked mode c b).port.current = c ∧ (locked mode c b).port.wait Side.a.other = b
      ∧ (locked mode c b).port.mode = mode ∧ Requester.ofSide Side.a.other ∈ (locked mode c b).port.rotation :=
  ⟨rfl, rfl, (by decide : 3 ≠ 0), rfl, rfl, ⟨rfl, rfl⟩, rfl, rfl, rfl, rfl, rfl,
    by simp [locked, PortArb.powerOn, Requester.ofSide, Side.other, State.setPort]⟩

theorem test_RunLinesMoveMastership_noMaster_met :
    running (withMaster none live) ∧ runLine (withMaster none live).pins .a = true
      ∧ (withMaster none live).mast.master = none ∧ nothingWaits (withMaster none live)
      ∧ (live.mast.master = some Side.b.other ∧ live.mast.eligible = true ∧ imagesApart live ∧ roomFor live 1) :=
  ⟨⟨rfl, rfl⟩, rfl, rfl, ⟨rfl, rfl⟩, rfl, rfl, live_imagesApart, rfl, by decide +kernel⟩

theorem test_ClaimAndReleaseAreDecided_met :
    (∀ d, classifying live d ∧ runLine live.pins d = true) ∧ ccpWordAt live 0 ∧ live.ldr.closing = none
      ∧ (classifying (withMaster none live) .b ∧ (withMaster none live).mast.master = none)
      ∧ live.mast.master = some Side.b.other ∧ live.mast.master = some .a
      ∧ live.ctl.mastership.state ≠ .running ∧ live.mast.eligible = true ∧ live.tw.waiting = [] :=
  ⟨fun d => ⟨live_classifying d, by cases d <;> rfl⟩, live_ccp 0, rfl,
    ⟨⟨⟨rfl, rfl⟩, rfl, rfl⟩, rfl⟩, rfl, rfl, by decide, rfl, rfl⟩

theorem test_RefusedRequestIsReported_met :
    requestOf (.release .b 5 false) = some (.b, .mastership, (requestValue 2 0 5).value, false)
      ∧ classifying live .b ∧ requestWordAt live .mastership
      ∧ sideFilter live .b (ctlAddr live.regions .mastership 0) = none
      ∧ refusal .mastership .b (requestValue 2 0 5).value live = some .notActive
      ∧ requestOf (.resume .a 5 false) = some (.a, .zoning, (requestValue 3 0 5).value, false)
      ∧ sideFilter live .a (ctlAddr live.regions .zoning 0) = none
      ∧ refusal .zoning .a (requestValue 3 0 5).value live = some .nothingSuspended
      ∧ refusal (.slot 7) .a (requestValue 2 0 5).value live = some .slotEmpty
      ∧ refusal .alarmAck .a (requestValue 1 19 5).value live = some .notRaised :=
  ⟨rfl, live_classifying .b, live_ccp 0, by decide +kernel⟩

theorem test_RefusedRequestIsReported_unit_met :
    nothingWaits live ∧ CtlId.mastership ≠ .zoning ∧ CtlId.slot 7 ≠ .zoning := ⟨⟨rfl, rfl⟩, by decide, by decide⟩

/-- Every request word, its address and a request of an unknown code that its unit refuses. -/
theorem test_RefusedRequestIsReported_code_met :
    (∀ c ∈ [CtlId.mastership, .zoning, .restart, .alarmAck, .slot 0, .slot 7],
        (BitVec.ofNat 24 (ctlAddr live.regions c 0)).toNat = ctlAddr live.regions c 0
        ∧ sideFilter live .a (ctlAddr live.regions c 0) = none ∧ refusal c .a 0x70009 live = some .badCode)
      ∧ classifying live .a ∧ requestWordAt live .restart ∧ requestWordAt live (.slot 7) ∧ roomFor live 1 :=
  ⟨by decide +kernel, live_classifying .a, live_ccp 8, live_slots 7, rfl, by decide +kernel⟩

theorem test_RequestAndEntryDecisions_met :
    live.zon.op = .idle ∧ live.ldr.closing = none ∧ live.zon.prevId = 0 ∧ live.zon.total = 0
      ∧ live.params.memberLimit = 1024 ∧ bankWords live = 0x2000 ∧ live.zon.pos = 0
      ∧ (withZon .suspended (some .marking) live).zon.op = .suspended
      ∧ (live.setLdr { live.ldr with closing := some [] }).ldr.closing ≠ none := by decide +kernel

/-- `live` closing, or with a RUNNING MASTERSHIP record, or with B not eligible. -/
def closingLive : State := live.setLdr { live.ldr with closing := some [] }
def runningClaim : State :=
  live.setCtl { live.ctl with mastership := { live.ctl.mastership with state := .running } }

theorem test_RequestAndEntryDecisions_refusals_met :
    (field 0x1#32 0 8 = 1 ∧ field 0x2#32 0 8 = 2 ∧ field 0x9#32 0 8 = 9)
      ∧ (live.mast.master ≠ some .b ∧ live.mast.master = some .a ∧ live.mast.master = some Side.b.other)
      ∧ closingLive.ldr.closing ≠ none ∧ (withMaster none live).mast.master = none
      ∧ runLine (live.setPins { live.pins with runB := false }).pins .b = false
      ∧ (runLine live.pins .b = true ∧ runningClaim.ctl.mastership.state = .running)
      ∧ ((withExpiry false live).mast.eligible = false ∧ live.mast.eligible = true)
      ∧ live.ctl.restart.state ≠ .running ∧ live.ctl.alarmAck.state ≠ .running
      ∧ (field 0xFF01#32 8 8 = 255 ∧ 20 ≤ field 0x1401#32 8 8 ∧ field 0xFE01#32 8 8 ≤ 254)
      ∧ (∃ e ∈ (withAlarm .major false live).alm.list, e.source.val = field 0x701#32 8 8)
      ∧ (∀ e ∈ (withAlarm .major false live).alm.list, e.source.val ≠ field 0x801#32 8 8)
      ∧ (slotInstalling.lic.slots[(3 : SlotIx)]).state = .installing
      ∧ ((withSlot ⟨.expired, none, 0, []⟩ live).lic.slots[(3 : SlotIx)]).state = .expired
      ∧ (live.lic.slots[(3 : SlotIx)]).state = .empty ∧ (live.ctl.slots[(3 : SlotIx)]).state ≠ .running := by
  decide +kernel

/-! ### Witnesses: zone banks -/

theorem test_WindowWriteIsDecided_met :
    (∀ op susp, activeSide (withZon op susp live) .a)
      ∧ (∀ op susp, wordIn (withZon op susp live) .zew ((withZon op susp live).regions.zew.base + (0#16).toNat)
          ∧ wordIn (withZon op susp live) .zew ((withZon op susp live).regions.zew.base + (4#16).toNat)
          ∧ wordIn (withZon op susp live) .zew ((withZon op susp live).regions.zew.base + (20#16).toNat)
          ∧ wordIn (withZon op susp live) .zew ((withZon op susp live).regions.zew.base + (24#16).toNat)
          ∧ wordIn (withZon op susp live) .zew ((withZon op susp live).regions.zew.base + (0x7FFC#16).toNat))
      ∧ (withZon .idle none live).zon.op = .idle ∧ (withZon .validating none live).zon.op = .validating
      ∧ (withZon .suspended (some .marking) live).zon.op = .suspended
      ∧ ((withZon .flipping none live).setZon
          { live.zon with op := .flipping, liveQueued := true }).zon.liveQueued = true := by
  refine ⟨fun _ _ => ⟨⟨⟨rfl, rfl⟩, rfl, rfl⟩, rfl⟩, fun op susp => ?_, rfl, rfl, rfl, rfl⟩
  have h (a : Nat) : wordIn (withZon op susp live) .zew a = wordIn live .zew a := rfl
  simp only [h, show (withZon op susp live).regions = map from rfl]
  unfold wordIn; decide +kernel

theorem test_WindowWriteIsDecided_rows_met :
    (∀ op ∈ [ZonState.marking, .flipping, .cloning],
        (withZon op none live).zon.op = op ∧ (withZon op none live).zon.liveQueued = false)
      ∧ nothingWaits (withZon .cloning none live)
      ∧ ((0#16).toNat / 4 = 0 ∧ 1 ≤ (4#16).toNat / 4 ∧ (20#16).toNat / 4 ≤ 5 ∧ 6 ≤ (24#16).toNat / 4) := by
  unfold nothingWaits; decide +kernel

theorem test_WindowWriteIsDecided_header_met (op : ZonState) :
    stagingApart (withZon op none live) ∧ roomFor (withZon op none live) 1 :=
  ⟨live_apart rfl rfl, rfl, (by decide : 0 + 1 ≤ 16)⟩

theorem test_editQueuesTheInvalidHeader :
    seen (fun t => queueView t) (exec (.zewWrite .a 24 (.single ⟨7, 15⟩) false) (withZon .validating none live))
      = some (stagingEntry live 1 (headerWord .invalid .abortedEdit 6) ::
          ((seen queueView (exec (.zewWrite .a 24 (.single ⟨7, 15⟩) false) (withZon .validating none live))).getD
            []).tail) := by decide +kernel

/-- A bank write of the zoning unit. -/
def bankEntry : Entry := ⟨7, 0x108004, 0, 0b1111, .normal, .zoning⟩

/-- Its write in progress, with a new operation's first read waiting for it. -/
def firstReadWaits (op : ZonState) : State :=
  withWrite bankEntry (live.setZon { live.zon with op := op, firstReadDue := true })

theorem test_ZoningOperationsStart_met :
    (activeSide live .a ∧ ccpWordAt live 4 ∧ live.ldr.closing = none ∧ live.zon.op = .idle)
      ∧ (∀ op, writing (firstReadWaits op) bankEntry)
      ∧ bankEntry.isBankWrite = true ∧ (firstReadWaits .validating).zon.liveQueued = false
      ∧ (firstReadWaits .cloning).zon.firstReadDue = true
      ∧ (∀ x ∈ (firstReadWaits .cloning).tw.queue, x.id = bankEntry.id ∨ x.isBankWrite = false)
      ∧ (firstReadWaits .cloning).tw.waiting = [] ∧ (firstReadWaits .cloning).tw.read = none :=
  ⟨⟨live_active, live_ccp 4, rfl, rfl⟩, fun _ => withWrite_writing _ _ rfl, by decide +kernel⟩

/-- `live` with `q` queued, and a read of another operation outstanding where `busy`. -/
def beforeZoning (q : List Entry) (busy : Bool) : State :=
  live.setTw { live.tw with queue := q, read := if busy then some ⟨0, some (.install 3)⟩ else none }

theorem test_ZoningOperationsStart_read_met :
    (∀ q b, activeSide (beforeZoning q b) .a ∧ ccpWordAt (beforeZoning q b) 4 ∧ (beforeZoning q b).ldr.closing = none
        ∧ (beforeZoning q b).zon.op = .idle ∧ (beforeZoning q b).tw.waiting = [] ∧ imagesApart (beforeZoning q b))
      ∧ ((beforeZoning [] false).tw.read = none ∧ (beforeZoning [] false).tw.readList = []
          ∧ (beforeZoning [] true).tw.read ≠ none)
      ∧ (∀ e ∈ (beforeZoning [{ bankEntry with cls := .event, origin := .ring }] false).tw.queue,
          ¬(e.cls = .normal ∧ (e.origin = .zoning ∨ e.origin = .liveWord)))
      ∧ (∃ e ∈ (beforeZoning [bankEntry] false).tw.queue,
          e.cls = .normal ∧ (e.origin = .zoning ∨ e.origin = .liveWord))
      ∧ ∀ e ∈ (beforeZoning [bankEntry] false).tw.queue, ∀ r, e.target ∉ recordTargets (beforeZoning [bankEntry] false) r := by
  refine ⟨fun _ _ => ⟨⟨⟨⟨rfl, rfl⟩, rfl, rfl⟩, rfl⟩, live_ccp 4, rfl, rfl, rfl, live_imagesApart⟩, by decide +kernel,
    by decide +kernel, by decide +kernel, fun e he r => ?_⟩
  obtain rfl : e = bankEntry := by simpa [beforeZoning] using he
  exact (recordTargets_congr (t := beforeZoning [bankEntry] false) (s := live) rfl r) ▸ live_stagingApart r

theorem test_ResumeContinuesAbandonEnds_met :
    (∀ op susp, activeSide (withZon op susp live) .a ∧ ccpWordAt (withZon op susp live) 4)
      ∧ (withZon .suspended (some .validating) live).zon.op = .suspended
      ∧ (withZon .suspended (some .flipping) live).zon.susp = some .flipping
      ∧ (withZon .suspended (some .flipping) live).zon.after = .nothing
      ∧ ((withZon .suspended (some .marking) live).setZon
          { live.zon with op := .suspended, susp := some .marking, snapshot := some 0 }).zon.snapshot ≠ none :=
  ⟨fun _ _ => ⟨⟨⟨⟨rfl, rfl⟩, rfl, rfl⟩, rfl⟩, live_ccp 4⟩, by decide +kernel⟩

/-- A marking commit of `n` entries whose validation ended in the suspension. -/
def resuming (n : Nat) : State :=
  live.setZon { live.zon with op := .suspended, susp := some .marking, count := n }

theorem test_ResumeContinuesAbandonEnds_snapshot_met :
    (∀ n, activeSide (resuming n) .a ∧ ccpWordAt (resuming n) 4 ∧ (resuming n).zon.op = .suspended
        ∧ (resuming n).zon.susp = some .marking ∧ (resuming n).zon.snapshot = none ∧ (resuming n).zon.count = n
        ∧ (resuming n).tw.waiting = [] ∧ (resuming n).tw.read = none ∧ (resuming n).tw.readList = [])
      ∧ 6 < bankWords (resuming 1) ∧ roomFor (resuming 0) 9 :=
  ⟨fun _ => ⟨⟨⟨⟨rfl, rfl⟩, rfl, rfl⟩, rfl⟩, live_ccp 4, rfl, rfl, rfl, rfl, rfl, rfl, rfl⟩, by decide +kernel, rfl,
    by decide +kernel⟩

theorem test_ResumeContinuesAbandonEnds_header_met (susp : Option ZonState) :
    stagingApart (withZon .suspended susp live) ∧ roomFor (withZon .suspended susp live) 1 :=
  ⟨live_apart rfl rfl, rfl, (by decide : 0 + 1 ≤ 16)⟩

/-- A commit's read in progress at word `pos`. -/
def committing (pos : Nat) (w : Word) : State :=
  withRead (some .zoning) w (live.setZon { live.zon with op := .validating, pos := pos })

/-- The same inside an entry of `n` slots that follow port 8, one entry of three. -/
def committingEntry (n : Nat) (w : Word) : State :=
  withRead (some .zoning) w (live.setZon
    { live.zon with op := .validating, pos := 7, count := 3, cur := some ⟨0x20001, n, [], 0, some 8⟩ })

/-- The marking pass at the last word of such an entry. -/
def marking (n : Nat) (w : Word) : State :=
  withRead (some .zoning) w (live.setZon
    { live.zon with op := .marking, pos := 7, count := 3, snapshot := some 0x200
                    cur := some ⟨0x20001, n, [], 0, some 8⟩ })

theorem test_CommitDataIsJudged_met :
    (∀ p w, reading (committing p w) (some .zoning) w ∧ (committing p w).zon.stage ≠ .cloning)
      ∧ (live.params.zoneLimit < field 65#32 0 16 ∧ (committing 0 65).zon.cur = none)
      ∧ entryFault (committing 6 0xFFFF) (field 0xFFFF#32 0 16) (field 0xFFFF#32 16 7) = some .zoneOrder
      ∧ (∀ n w, reading (committingEntry n w) (some .zoning) w ∧ (committingEntry n w).zon.stage ≠ .cloning
          ∧ (committingEntry n w).zon.cur = some ⟨0x20001, n, [], 0, some 8⟩
          ∧ (committingEntry n w).zon.after = .nothing)
      ∧ (⟨0x20001, 2, [], 0, some 8⟩ : ZonEntry).fault 8 = some .memberOrder
      ∧ (⟨0x20001, 3, [], 0, some 8⟩ : ZonEntry).fault 0xA0009 = none ∧ 0 + 1 < (3 + 1) / 2
      ∧ (⟨0x20001, 2, [], 0, some 8⟩ : ZonEntry).fault 0xA0009 = none ∧ 0 + 1 = (2 + 1) / 2
      ∧ (committingEntry 2 0xA0009).zon.entryIx + 1 ≠ (committingEntry 2 0xA0009).zon.count
      ∧ (committingEntry 2 0xA0009).zon.pos + 1 < bankWords (committingEntry 2 0xA0009)
      ∧ (reading (marking 3 0xA0009) (some .zoning) 0xA0009 ∧ (marking 3 0xA0009).zon.stage = .marking)
      ∧ entryFault (committing 6 0x400001) (field 0x400001#32 0 16) (field 0x400001#32 16 7) = none
      ∧ 1 ≤ field 0x400001#32 16 7 :=
  ⟨fun _ _ => ⟨withRead_reading _ _ _ rfl, (by decide : ZonState.validating ≠ .cloning)⟩,
    by decide +kernel, by decide +kernel,
    fun _ _ => ⟨withRead_reading _ _ _ rfl, (by decide : ZonState.validating ≠ .cloning), rfl, rfl⟩,
    by decide +kernel, by decide +kernel, by decide, by decide +kernel, by decide, by decide +kernel,
    by decide +kernel, ⟨withRead_reading _ _ _ rfl, rfl⟩, by decide +kernel⟩

theorem test_CommitDataIsJudged_header_met (p n : Nat) (w : Word) :
    (stagingApart (committing p w) ∧ roomFor (committing p w) 1)
      ∧ stagingApart (committingEntry n w) ∧ roomFor (committingEntry n w) 1 :=
  ⟨⟨live_apart rfl rfl, rfl, (by decide : 0 + 1 ≤ 16)⟩,
    live_apart rfl rfl, rfl, (by decide : 0 + 1 ≤ 16)⟩

/-- A commit's read in progress at word `pos` of its pass in `op`, suspended where `op` says so, with `n`
entries in all, `e` the entry it is in. -/
def pass (op : ZonState) (susp : Option ZonState) (n pos : Nat) (e : Option ZonEntry) (w : Word) : State :=
  withRead (some .zoning) w (live.setZon
    { live.zon with op := op, susp := susp, pos := pos, count := n, cur := e, snapshot := some 0x200 })

theorem pass_reading (op : ZonState) (susp : Option ZonState) (n pos : Nat) (e : Option ZonEntry) (w : Word) :
    reading (pass op susp n pos e w) (some .zoning) w := withRead_reading _ _ _ rfl

theorem test_CommitDataIsJudged_ends_met :
    (∀ op susp n p e w, reading (pass op susp n p e w) (some .zoning) w
        ∧ (pass op susp n p e w).zon.op = op ∧ (pass op susp n p e w).zon.susp = susp
        ∧ (pass op susp n p e w).zon.cur = e ∧ (pass op susp n p e w).zon.count = n
        ∧ (pass op susp n p e w).zon.pos = p ∧ (pass op susp n p e w).zon.entryIx = 0
        ∧ (pass op susp n p e w).zon.after = .nothing ∧ nothingWaits (pass op susp n p e w)
        ∧ (pass op susp n p e w).tw.readList = [] ∧ (pass op susp n p e w).tw.queue = []
        ∧ (pass op susp n p e w).zon.writes = [] ∧ (pass op susp n p e w).zon.withheld = none)
      ∧ (pass .validating none 2 6 none 1).zon.stage ≠ .cloning
      ∧ (pass .suspended (some .validating) 1 6 none 1).zon.stage ≠ .cloning
      ∧ (entryFault (pass .validating none 2 6 none 1) (field 1#32 0 16) (field 1#32 16 7) = none
          ∧ field 1#32 16 7 = 0 ∧ 0 + 1 ≠ 2 ∧ 0 + 1 = 1
          ∧ 6 + 1 < bankWords (pass .validating none 2 6 none 1)
          ∧ 6 < bankWords (pass .validating none 1 6 none 1))
      ∧ entryFault (pass .suspended (some .validating) 1 6 none 1) (field 1#32 0 16) (field 1#32 16 7) = none
      ∧ ((⟨0x20001, 2, [], 0, some 8⟩ : ZonEntry).fault 0xA0009 = none ∧ 0 + 1 = (2 + 1) / 2)
      ∧ field 0x50000#32 0 16 = 0 ∧ ([] : List Entry).length ≤ 8
      ∧ (licenceSnapshot { live.lic with base := 1 }).getLsbD (5 : Port).val = true
      ∧ groupLicensed { live.lic with base := 1 } 5 = true :=
  ⟨fun _ _ _ _ _ _ => ⟨pass_reading _ _ _ _ _ _, rfl, rfl, rfl, rfl, rfl, rfl, rfl, ⟨rfl, rfl⟩, rfl, rfl, rfl, rfl⟩,
    by decide +kernel⟩

theorem test_MarkingWritesBackAndFlips_met :
    (reading (marking 2 0xA0009) (some .zoning) 0xA0009 ∧ (marking 2 0xA0009).zon.op = .marking
        ∧ (marking 2 0xA0009).zon.snapshot = some 0x200
        ∧ (marking 2 0xA0009).zon.cur = some ⟨0x20001, 2, [], 0, some 8⟩)
      ∧ (⟨0x20001, 2, [], 0, some 8⟩ : ZonEntry).fault 0xA0009 = none
      ∧ (ZonEntry.take (some 0x200) 0xA0009 ⟨0x20001, 2, [], 0, some 8⟩).members = [0x800A0009]
      ∧ (ZonEntry.take (some 0x200) 0xA0009 ⟨0x20001, 2, [], 0, some 8⟩).masked = 1
      ∧ (marking 2 0xA0009).zon.writes = [] ∧ (marking 2 0xA0009).zon.withheld = none
      ∧ (marking 2 0xA0009).tw.waiting = [] ∧ (marking 2 0xA0009).tw.queue.length + 2 ≤ 16
      ∧ (marking 2 0xA0009).zon.entryIx + 1 ≠ (marking 2 0xA0009).zon.count
      ∧ (marking 2 0xA0009).zon.pos + 1 < bankWords (marking 2 0xA0009)
      ∧ 2 ≤ (marking 2 0xA0009).zon.pos + 1
      ∧ live.tw.waiting = [] ∧ live.tw.queue.length ≤ 10 ∧ (127 : Nat) < 128 :=
  ⟨⟨withRead_reading _ _ _ rfl, rfl, rfl, rfl⟩, by decide +kernel⟩

theorem test_MarkingWritesBackAndFlips_ends_met :
    (pass .marking none 2 6 none 1).zon.snapshot = some 0x200
      ∧ (pass .suspended (some .marking) 1 7 (some ⟨0x20001, 2, [], 0, some 8⟩) 0xA0009).zon.stage = .marking
      ∧ (entryFault (pass .marking none 2 6 none 1) (field 1#32 0 16) (field 1#32 16 7) = none
          ∧ 6 + 1 < bankWords (pass .marking none 2 6 none 1))
      ∧ (withMaskedCount 0x20001 1 :: (ZonEntry.take (some 0x200) 0xA0009 ⟨0x20001, 2, [], 0, some 8⟩).members)
          = [0x1020001, 0x800A0009]
      ∧ (∀ x ∈ [(0x1020001#32, 0), (0x800A0009#32, 1)],
          wordAt (stagingBase (pass .marking none 1 7 none 0xA0009)) (7 + 1 - 2 + x.2)
              ∉ recordTargets (pass .marking none 1 7 (some ⟨0x20001, 2, [], 0, some 8⟩) 0xA0009) .zoning
          ∧ wordAt (stagingBase (pass .marking none 1 7 none 0xA0009)) (7 + 1 - 2 + x.2)
              ∉ recordTargets (pass .suspended (some .marking) 1 7 (some ⟨0x20001, 2, [], 0, some 8⟩) 0xA0009)
                  .zoning)
      ∧ 0 + 2 ≤ 8 ∧ 2 ≤ 7 + 1 := by decide +kernel

/-- A clone's read in progress with the header words `h` taken. -/
def cloning (h : List Word) (w : Word) : State :=
  withRead (some .zoning) w (live.setZon { live.zon with op := .cloning, pos := 5, cloneHdr := h })

theorem test_CloneDataIsTaken_met :
    (∀ h w, reading (cloning h w) (some .zoning) w ∧ (cloning h w).zon.stage = .cloning
        ∧ (cloning h w).zon.cloneHdr = h ∧ (cloning h w).zon.after = .nothing)
      ∧ (5#32).toNat < 6 ∧ bankWords live < (0x2001#32).toNat ∧ (0x2000#32).toNat ≤ bankWords live :=
  ⟨fun _ _ => ⟨withRead_reading _ _ _ rfl, rfl, rfl, rfl⟩, by decide +kernel⟩

theorem test_CloneDataIsTaken_header_met (h : List Word) (w : Word) :
    stagingApart (cloning h w) ∧ roomFor (cloning h w) 1 :=
  ⟨live_apart rfl rfl, rfl, (by decide : 0 + 1 ≤ 16)⟩

/-- The same at word `pos`, with nothing but the `n` live-word entries in the queue. -/
def cloningAt (pos n : Nat) (h : List Word) (w : Word) : State :=
  let s := cloning h w
  (s.setZon { s.zon with pos := pos }).setTw { s.tw with
    queue := (List.range n).map fun i => { bankEntry with id := i, target := 0x40068, origin := .liveWord } }

theorem test_CloneDataIsTaken_words_met :
    (∀ p n h w, reading (cloningAt p n h w) (some .zoning) w ∧ (cloningAt p n h w).zon.stage = .cloning
        ∧ (cloningAt p n h w).zon.op = .cloning ∧ nothingWaits (cloningAt p n h w)
        ∧ (cloningAt p n h w).tw.readList = [] ∧ (cloningAt p n h w).zon.writes = []
        ∧ (cloningAt p n h w).zon.withheld = none ∧ (cloningAt p n h w).zon.cloneHdr = h
        ∧ (cloningAt p n h w).zon.pos = p)
      ∧ (6 < (7#32).toNat ∧ (6#32).toNat ≤ 6 ∧ 6 + 1 < (8#32).toNat ∧ (7#32).toNat ≤ 6 + 1)
      ∧ (cloningAt 6 15 [8, 0, 0, 0, 0] 9).tw.queue.length = 15
      ∧ (cloningAt 6 16 [8, 0, 0, 0, 0] 9).tw.queue.length = 16
      ∧ (cloningAt 6 9 [7, 0, 0, 0, 0] 9).tw.queue.length + [()].length + 6 = 16
      ∧ (cloningAt 4 10 [6, 0, 0, 0] 9).tw.queue.length + 0 + 6 = 16
      ∧ (∀ x ∈ stagingEntry (cloningAt 6 9 [7, 1, 2, 3, 4] 9) 6 9
            :: cloneEntries (cloningAt 6 9 [7, 1, 2, 3, 4] 9) 7 1 2 3 4,
          x.1 ∉ recordTargets (cloningAt 6 9 [7, 1, 2, 3, 4] 9) .zoning
          ∧ x.1 ∉ recordTargets (cloningAt 6 9 [7, 1, 2, 3, 4] 9) (.ctlStatus .zoning)) :=
  ⟨fun _ _ _ _ => ⟨⟨rfl, rfl, rfl, 0, rfl, (Mem.readWord_writeWord 0 _ (m := []) rfl).symm⟩, rfl, rfl, ⟨rfl, rfl⟩,
      rfl, rfl, rfl, rfl, rfl⟩, by decide +kernel⟩

/-- A flip whose live word is in progress on the port. -/
def flipping : State :=
  withWrite { bankEntry with origin := .liveWord }
    (live.setZon { live.zon with op := .flipping, liveQueued := true, flipGen := some 3 })

theorem test_FlipCompletes_met :
    writing flipping { bankEntry with origin := .liveWord } ∧ flipping.zon.liveQueued = true
      ∧ flipping.zon.flipGen = some 3 ∧ flipping.ldr.closing = none ∧ flipping.bus.a.held = none
      ∧ flipping.bus.b.held = none :=
  ⟨withWrite_writing _ _ rfl, by decide +kernel⟩

theorem test_FlipCompletes_published_met :
    imagesApart flipping ∧ roomFor flipping 13
      ∧ ∀ r ∈ [RecordId.results, .zoning, .ctlStatus .zoning],
        wordAt (bankBase flipping.regions flipping.zon.liveBank) 1 ∉ recordTargets flipping r :=
  ⟨live_imagesApart, ⟨rfl, by decide +kernel⟩, by decide +kernel⟩

/-- That flip, with a write of the window at `offset` held from side A, BYPASS as given. -/
def flippingHeld (m : Option Side) (offset : BitVec 16) (bypass : Bool) : State :=
  let s := flipping.setBus { flipping.bus with
    a := { flipping.bus.a with held := some ⟨live.regions.zew.base + offset.toNat, .single ⟨5, 15⟩, false⟩ } }
  (withMaster m s).setPins { live.pins with bypass := bypass }

theorem flippingHeld_writing (m : Option Side) (o : BitVec 16) (b : Bool) :
    writing (flippingHeld m o b) { bankEntry with origin := .liveWord } := by
  refine ⟨rfl, rfl, ?_⟩
  simp [flippingHeld, withMaster, flipping, withWrite, writeInProgress, currentEntry]

theorem test_WindowWriteIsDecided_release_met (m : Option Side) (o : BitVec 16) (b : Bool) :
    (flippingHeld m o b).zon.liveQueued = true ∧ (flippingHeld m o b).ldr.closing = none
      ∧ running (flippingHeld m o b) ∧ (flippingHeld m o b).pins.bypass = b
      ∧ ((flippingHeld m o b).bus.get Side.a.other).held = none ∧ (flippingHeld m o b).port.wait .a = none
      ∧ ((flippingHeld m o b).bus.get .a).held = some ⟨live.regions.zew.base + o.toNat, .single ⟨5, 15⟩, false⟩
      ∧ (flippingHeld m o b).regions = live.regions ∧ (flippingHeld m o b).mast.master = m :=
  ⟨rfl, rfl, ⟨rfl, rfl⟩, rfl, rfl, rfl, rfl, rfl, rfl⟩

theorem test_WindowWriteIsDecided_releaseWord_met (m : Option Side) (o : BitVec 16) (b : Bool) :
    wordIn (flippingHeld m o b) .zew (map.zew.base + (0#16).toNat)
      ∧ wordIn (flippingHeld m o b) .zew (map.zew.base + (4#16).toNat)
      ∧ wordIn (flippingHeld m o b) .zew (map.zew.base + (20#16).toNat)
      ∧ wordIn (flippingHeld m o b) .zew (map.zew.base + (24#16).toNat)
      ∧ wordIn (flippingHeld m o b) .zew (map.zew.base + (0x7FFC#16).toNat) := by
  have h (a : Nat) : wordIn (flippingHeld m o b) .zew a = wordIn live .zew a := rfl
  simp only [h]
  unfold wordIn; decide +kernel

/-! ### Witnesses: RESTART, ACK and grants -/

theorem test_RestartBeginsClosing_met :
    (activeSide live .a ∧ activeSide claimed .a) ∧ (ccpWordAt live 8 ∧ ccpWordAt claimed 8)
      ∧ claimed.ldr.closing = none ∧ claimed.ctl.restart.state ≠ .running ∧ claimed.mast.claim ≠ none :=
  ⟨⟨live_active, ⟨⟨rfl, rfl⟩, rfl, rfl⟩, rfl⟩, ⟨live_ccp 8, live_ccp 8⟩, by decide +kernel⟩

theorem test_RestartBeginsClosing_units_met :
    (∀ op susp, activeSide (withZon op susp live) .a ∧ (withZon op susp live).zon.op = op
        ∧ (withZon op susp live).zon.liveQueued = false ∧ nothingWaits (withZon op susp live)
        ∧ imagesApart (withZon op susp live))
      ∧ (live.setZon { live.zon with op := .flipping, liveQueued := true }).zon.liveQueued = true
      ∧ (imagesApart claimed ∧ roomFor claimed 13 ∧ claimed.mast.claim ≠ none)
      ∧ ((slotInstalling.lic.slots[(3 : SlotIx)]).state = .installing
          ∧ slotInstalling.regions.lsa.base ≠ slotInstalling.regions.lsa.limit ∧ imagesApart slotInstalling)
      ∧ live.port.lockCount < 8 :=
  ⟨fun _ _ => ⟨⟨⟨⟨rfl, rfl⟩, rfl, rfl⟩, rfl⟩, rfl, rfl, ⟨rfl, rfl⟩, live_imagesApart⟩, rfl,
    ⟨live_imagesApart, ⟨rfl, by decide +kernel⟩, by decide⟩, ⟨rfl, by decide +kernel, live_imagesApart⟩,
    by decide +kernel⟩

/-- A closing whose last awaited write is in progress. -/
def closing : State :=
  withWrite { bankEntry with origin := .restart } (live.setLdr { live.ldr with closing := some [7] })

theorem test_ClosingEndReturnsToTransparent_met :
    writing closing { bankEntry with origin := .restart } ∧ closing.ldr.closing = some [7] ∧ 7 ∈ [7]
      ∧ closing.zon.liveQueued = false ∧ (∀ n ∈ [7], n = 7 ∨ ∀ x ∈ closing.tw.queue, x.id ≠ n)
      ∧ closing.tw.waiting = [] :=
  ⟨withWrite_writing _ _ rfl, by decide +kernel⟩

theorem test_ClosingEndReturnsToTransparent_port_met :
    closing.port.waitA = none ∧ closing.port.waitB = none ∧ closing.tw.read = none := ⟨rfl, rfl, rfl⟩

/-- An ACTIVE grant slot with `hours` left. -/
def activeSlot (hours : Nat) : GrantSlot := ⟨.active, some ⟨5, .pool, 10, 0, 100⟩, hours, []⟩

theorem test_InstallAndRemoveAreTaken_met :
    (∀ g, activeSide (withSlot g live) .a ∧ slotWordAt (withSlot g live) 3)
      ∧ live.ldr.closing = none ∧ (live.ctl.slots[(3 : SlotIx)]).state ≠ .running
      ∧ ((withSlot GrantSlot.powerOn live).lic.slots[(3 : SlotIx)]).state = .empty
      ∧ ((withSlot (activeSlot 1) live).lic.slots[(3 : SlotIx)]).state ≠ .empty
      ∧ ((withSlot (activeSlot 1) live).lic.slots[(3 : SlotIx)]).state ≠ .installing :=
  ⟨fun _ => ⟨⟨⟨⟨rfl, rfl⟩, rfl, rfl⟩, rfl⟩, live_slots 3⟩, by decide +kernel⟩

/-- `live` with slot 3 REJECTED, whose removal changes no alarm. -/
def slotRejected : State := withSlot ⟨.rejected, none, 0, []⟩ live

theorem test_InstallAndRemoveAreTaken_published_met :
    activeSide slotRejected .a ∧ slotWordAt slotRejected 3 ∧ imagesApart slotRejected ∧ roomFor slotRejected 9
      ∧ (slotRejected.lic.slots[(3 : SlotIx)]).state ≠ .active
      ∧ (slotRejected.lic.slots[(3 : SlotIx)]).state ≠ .empty
      ∧ seen (fun t => decide (t.alm = slotRejected.alm)) (exec (.remove .a 3 5 false) slotRejected) = some true :=
  ⟨⟨⟨⟨rfl, rfl⟩, rfl, rfl⟩, rfl⟩, live_slots 3, live_imagesApart, ⟨rfl, by decide +kernel⟩, by decide +kernel⟩

/-- `s` with a read for the zoning unit outstanding and `list` waiting behind it. -/
def withReadList (list : List ReadWait) (s : State) : State :=
  s.setTw { s.tw with read := some ⟨0, some .zoning⟩, readList := list }

theorem test_InstallAndRemoveAreTaken_read_met :
    (slotRejected.tw.read = none ∧ slotRejected.tw.readList = [])
      ∧ (activeSide (withReadList [] slotRejected) .a ∧ slotWordAt (withReadList [] slotRejected) 3
        ∧ (withReadList [] slotRejected).tw.read ≠ none ∧ nothingWaits (withReadList [] slotRejected)) :=
  ⟨⟨rfl, rfl⟩, ⟨⟨⟨rfl, rfl⟩, rfl, rfl⟩, rfl⟩, live_slots 3, by decide, rfl, rfl⟩

/-- `s` with port 5 ON from the pool and assigned, and a pool of `total` ports. -/
def withPooled (total : Nat) (s : State) : State :=
  (withPortOn 1 150 s).setLic { s.lic with pool := [5], poolTotal := total }

theorem test_WithdrawnLicencesTurnPortsOff_met :
    (1#48).getLsbD (groupOf 5) = true ∧ (1#48).getLsbD (groupOf 383) = false
      ∧ ((withPooled 1 live).gov.ports[(5 : Port)]).effective = true
      ∧ ((withPooled 1 live).gov.ports[(6 : Port)]).effective = false
      ∧ groupLicensed live.lic 5 = false ∧ (5 : Port) ∉ live.lic.pool
      ∧ (withPooled 1 live).lic.pool.length ≤ (withPooled 1 live).lic.poolTotal
      ∧ (withPooled 0 live).lic.poolTotal < (withPooled 0 live).lic.pool.length
      ∧ (withPooled 0 live).lic.pool.Nodup
      ∧ (∀ q ∈ (withPooled 0 live).lic.pool, ((withPooled 0 live).gov.ports[q]).source = .pool)
      ∧ (withPooled 0 live).tw.queue = [] ∧ (withPooled 0 live).tw.waiting = []
      ∧ (withPooled 0 live).lic.pool.length ≤ (withPooled 0 live).lic.poolTotal + 16 := by decide +kernel

theorem test_WithdrawnLicencesTurnPortsOff_remove_met :
    activeSide (withSlot (activeSlot 9) live) .a ∧ slotWordAt (withSlot (activeSlot 9) live) 3
      ∧ (withSlot (activeSlot 9) live).ldr.closing = none
      ∧ ((withSlot (activeSlot 9) live).ctl.slots[(3 : SlotIx)]).state ≠ .running
      ∧ ((withSlot (activeSlot 9) live).lic.slots[(3 : SlotIx)]).state = .active
      ∧ (withSlot (activeSlot 9) live).lic.pool.Nodup
      ∧ groupLicensed { live.lic with slots := live.lic.slots.set 3 ⟨.active, some ⟨5, .group, 0, 1, 9⟩, 9, []⟩ } 5
          = true :=
  ⟨⟨⟨⟨rfl, rfl⟩, rfl, rfl⟩, rfl⟩, live_slots 3, by decide +kernel⟩

/-- An INSTALL's read in progress with the words `image` taken. -/
def installing (image : List Word) (w : Word) : State :=
  withRead (some (.install 3)) w (withSlot ⟨.installing, none, 0, image⟩ live)

/-- A sound grant body but for its last word. -/
def grantWords : List Word := [5, 0x000A0002, 0, 0x00640000]

theorem test_GrantBodyIsJudged_met :
    (∀ im w, reading (installing im w) (some (.install 3)) w
        ∧ ((installing im w).lic.slots[(3 : SlotIx)]).image = im)
      ∧ fieldFault (grantBody [0, 0, 0, 0, 0]) = some 1
      ∧ fieldFault (grantBody [5, 0x01800002, 0, 0, 0]) = none
      ∧ fieldFault (grantBody [5, 0x01810002, 0, 0, 0]) = some 3
      ∧ (fieldFault (grantBody (grantWords ++ [0])) = none
          ∧ (grantBody (grantWords ++ [0])).check ≠ grantCheck par.serial (grantWords ++ [0]))
      ∧ (grantBody (grantWords ++ [0x92B9])).check = grantCheck par.serial (grantWords ++ [0x92B9])
      ∧ duplicateSlot live.lic 3 5 = none ∧ duplicateSlot (withSlot (activeSlot 1) live).lic 2 5 = some 3 :=
  ⟨fun _ _ => ⟨withRead_reading _ _ _ rfl, rfl⟩, by decide +kernel⟩

/-- The check of a grant body runs over the serial from its most significant byte and the words from their least. -/
theorem test_grantCheck_runs_over_these_bytes :
    grantCheck 0x0102030405060708 [0x0C0B0A09, 0x100F0E0D, 0x14131211, 0x18171615, 0xFFFF]
      = crc16 ((List.range 24).map fun n => BitVec.ofNat 8 (n + 1)) := by decide +kernel

/-- Words 3 to 7 of a GROUP grant with id 6 for group 0, and its right check. -/
def groupBody : List Word := [6, 1, 1, 0, (grantCheck par.serial [6, 1, 1, 0]).setWidth 32]

theorem test_GrantBodyIsJudged_fields_met :
    fieldFault (grantBody [1, 0x00010000, 0, 0, 0]) = some 2 ∧ fieldFault (grantBody [1, 3, 0, 0, 0]) = some 2
      ∧ fieldFault (grantBody [1, 2, 0, 0, 0]) = some 3 ∧ fieldFault (grantBody [1, 1, 0, 0x00010000, 0]) = some 4
      ∧ fieldFault (grantBody [1, 1, 0, 0x00008000, 0]) = none := by decide +kernel

theorem test_GrantBodyIsJudged_accepted_met :
    (groupBody.length = 5 ∧ fieldFault (grantBody groupBody) = none
        ∧ (grantBody groupBody).check = grantCheck par.serial groupBody ∧ (grantBody groupBody).kind = 1
        ∧ duplicateSlot live.lic 3 (grantBody groupBody).id = none
        ∧ (grantBody groupBody).groups.getLsbD (groupOf 7) = true ∧ groupLicensed live.lic 7 = false)
      ∧ ((grantBody (grantWords ++ [0x92B9])).kind = 2 ∧ live.gov.committed ≤ live.gov.headroomDw)
      ∧ (grantBody groupBody).groups.getLsbD (groupOf 8) = false := by decide +kernel

theorem test_GrantBodyIsJudged_queue_met (im : List Word) (w : Word) :
    imagesApart (installing im w) ∧ (installing im w).regions.lsa.present = true
      ∧ (installing im w).tw.queue = [] ∧ roomFor (installing im w) 2 ∧ (installing im w).tw.readList = []
      ∧ nothingWaits (installing im w) ∧ (installing im w).ldr.op ≠ .loading
      ∧ reading ((installing im w).setTw { (installing im w).tw with readList := [⟨.zoning, 8⟩] })
          (some (.install 3)) w :=
  ⟨live_imagesApart, rfl, rfl, ⟨rfl, (by decide : 0 + 2 ≤ 16)⟩, rfl, ⟨rfl, rfl⟩,
    (by decide : OpState.supervising ≠ .loading), rfl, rfl, rfl, 0, rfl,
    (Mem.readWord_writeWord 0 w (m := []) rfl).symm⟩

/-! ### Witnesses: time and lines -/

theorem test_HourTickCountsTerms_met :
    running (live.setTime { live.time with hourDue := true })
      ∧ (live.setTime { live.time with hourDue := true }).time.hourDue = true
      ∧ (activeSlot 2).counts = true ∧ 1 < (activeSlot 2).remaining ∧ (activeSlot 1).counts = true
      ∧ (activeSlot 1).remaining ≤ 1 ∧ GrantSlot.powerOn.counts = false :=
  ⟨⟨rfl, rfl⟩, by decide +kernel⟩

/-- Port 5 is ON by a GROUP grant in slot 3 for group 0, with `hours` left, and an hour tick is due. -/
def expiring (hours : Nat) : State :=
  let s := withSlot ⟨.active, some ⟨6, .group, 0, 1, 9⟩, hours, []⟩ live
  (s.setGov { s.gov with ports := s.gov.ports.set 5 ⟨true, 0, true, .none, .group⟩, committed := 150 }).setTime
    { s.time with hourDue := true }

theorem test_hourTickWithdrawsWhatExpires :
    (expiring 1).lic.slots[(3 : SlotIx)].counts = true ∧ groupLicensed (expiring 1).lic 5 = true
      ∧ seen (fun t => (groupLicensed t.lic 5, (t.gov.ports[(5 : Port)]).effective, (t.gov.ports[(5 : Port)]).reason,
          t.gov.held, t.gov.committed)) (exec .hourTick (expiring 1)) = some (false, false, .unlicensed, [5], 0) := by
  decide +kernel

theorem expiring_ports (n : Nat) (q : Port) :
    (expiring n).gov.ports[q] = if q = 5 then ⟨true, 0, true, .none, .group⟩ else PortEntry.powerOn := by
  simp only [expiring, withSlot, live, Governor.recompute, Governor.powerOn, State.setGov_gov, State.setLic_gov,
    State.setTime_gov, Fin.getElem_fin, Vector.getElem_set, Vector.getElem_replicate]
  by_cases h : q = 5
  · simp [h]
  · have h5 : ¬5 = q.val := fun e => h (Fin.ext e.symm)
    simp [h, h5]

theorem expiring_drawsOn (n : Nat) : drawsOn (expiring n) = 150 := by
  have h : (fun q : Port => if ((expiring n).gov.ports[q]).effective then draw (expiring n) q else 0)
      = fun q => if q = 5 then 150 else 0 := funext fun q => by
    rw [draw, expiring_ports]
    by_cases hq : q = 5
    · subst hq; simp [drawAt, expiring, withSlot, live, par]
    · simp [hq, PortEntry.powerOn]
  rw [drawsOn, h]; decide +kernel

theorem test_HourTickCountsTerms_expiry_met (n : Nat) :
    running (expiring n) ∧ (expiring n).time.hourDue = true ∧ governorSound (expiring n)
      ∧ ((expiring n).lic.slots[(3 : SlotIx)]).counts = true ∧ ((expiring n).lic.slots[(3 : SlotIx)]).remaining = n := by
  have hh : (expiring n).gov.held = [] := rfl
  have hs : slotUp (expiring n).params (expiring n).gov (slotOf 5) = true := by
    show slotUp par (expiring 0).gov (slotOf 5) = true; decide +kernel
  refine ⟨⟨rfl, rfl⟩, rfl, ⟨⟨by rw [hh]; exact List.nodup_nil, fun q => ?_, fun q h => ?_⟩,
    ⟨(expiring_drawsOn n).symm ▸ rfl, ?_⟩, ⟨List.nodup_nil, fun _ h => absurd h List.not_mem_nil⟩, ?_, fun _ _ => rfl⟩,
    rfl, rfl⟩
  · rw [expiring_ports]
    by_cases hq : q = 5 <;> simp [hh, hq, PortEntry.powerOn]
  · rw [expiring_ports] at h ⊢
    by_cases hq : q = 5
    · subst hq; exact ⟨rfl, hs⟩
    · simp [hq, PortEntry.powerOn] at h
  · show 150 ≤ live.gov.headroomDw; decide +kernel
  · show ranksClamped live; unfold ranksClamped; decide +kernel

theorem test_TickTakesOneFromEveryTimer_met : running live ∧ nothingDue live :=
  ⟨⟨rfl, rfl⟩, by constructor <;> decide +kernel⟩

theorem test_TickTakesOneFromEveryTimer_outside_met :
    State.reset.pins.inReset = false ∧ State.reset.ldr.op ≠ .supervising ∧ nothingDue State.reset :=
  ⟨rfl, by decide, by constructor <;> decide +kernel⟩

theorem test_TickTakesOneFromEveryTimer_sample_met :
    (1 < 2 ∧ (1 : Nat) ≤ 1) ∧ true = (⟨true, 4, false⟩ : Debounce).level
      ∧ (true ≠ (⟨false, 3, false⟩ : Debounce).level ∧ (⟨false, 3, false⟩ : Debounce).count + 1 < 5)
      ∧ (true ≠ (⟨false, 4, false⟩ : Debounce).level ∧ 5 ≤ (⟨false, 4, false⟩ : Debounce).count + 1) := by decide

theorem test_SecondCountsAndBypassLineChanges_met :
    (live.setTime { live.time with secondDue := true }).pins.inReset = false
      ∧ (live.setTime { live.time with secondDue := true }).time.secondDue = true := ⟨rfl, rfl⟩

/-! ### Witnesses: the port and the table writer -/

/-- An upstream access in progress. -/
def serving (a : Access) : State := live.setPort { live.port with current := some (.up .b a) }

theorem test_UpstreamAccessEnds_met (a : Access) :
    (serving a).pins.inReset = false ∧ (serving a).port.current = some (.up .b a) ∧ portQuiet (serving a) :=
  ⟨rfl, rfl, rfl, rfl, rfl, rfl, rfl, rfl, (by decide : live.ldr.op ≠ .loading)⟩

/-- Access `a` of side A waits, with `n` locked accesses served to A; the table writer has `q` queued. -/
def arbitrating (mode : ArbMode) (a : Option Access) (n : Nat) (q : List Entry) : State :=
  (live.setPort { live.port with
    mode := mode, waitA := a, owner := some .spa, lockCount := n, rotation := [.tw, .spb, .spa] }).setTw
    { live.tw with queue := q }

/-- A read of word 0, locked as given. -/
def wordRead (lock : Bool) : Access := ⟨0, lock, false, .read [.plain 0]⟩

theorem test_UpstreamAccessEnds_arbitration_met :
    (∀ mode a n q, (arbitrating mode a n q).port.mode = mode ∧ (arbitrating mode a n q).port.wait .a = a
        ∧ (arbitrating mode a n q).port.lockCount = n
        ∧ (arbitrating mode a n q).port.owner = some (.ofSide .a))
      ∧ (escalated (arbitrating .fixed none 0 [⟨7, 4, 0, 15, .urgent, .governor⟩]).tw = true
          ∧ requesting (arbitrating .fixed none 0 [⟨7, 4, 0, 15, .urgent, .governor⟩]) .tw = true)
      ∧ (escalated (arbitrating .fixed (some (wordRead false)) 0 []).tw = false
          ∧ requesting (arbitrating .fixed (some (wordRead false)) 0 []) .spa = true
          ∧ requesting (arbitrating .fixed (some (wordRead false)) 0 []) .spb = false
          ∧ requesting (arbitrating .fixed (some (wordRead false)) 0 []) .tw = false)
      ∧ (requesting (arbitrating .fixed none 0 [⟨7, 4, 0, 15, .status, .governor⟩]) .spa = false
          ∧ requesting (arbitrating .fixed none 0 [⟨7, 4, 0, 15, .status, .governor⟩]) .tw = true
          ∧ escalated (arbitrating .fixed none 0 [⟨7, 4, 0, 15, .status, .governor⟩]).tw = false)
      ∧ (arbitrating .rotating none 0 []).port.rotation = [] ++ Requester.tw :: [.spb, .spa]
      ∧ (arbitrating .rotating none 0 []).port.rotation = [.tw, .spb] ++ Requester.spa :: []
      ∧ (∀ r, requesting live r = false) ∧ (wordRead true).lock = true ∧ (wordRead false).lock = false
      ∧ (7 < 8 ∧ 8 ≤ (arbitrating .fixed (some (wordRead true)) 8 []).port.lockCount) :=
  ⟨fun _ _ _ _ => ⟨rfl, rfl, rfl, rfl⟩, by decide +kernel, by decide +kernel, by decide +kernel, rfl, rfl,
    fun r => by cases r <;> rfl, rfl, rfl, by decide +kernel⟩

theorem test_UpstreamAccessEnds_choice_met :
    ([⟨6, 4, 0, 15, .status, .governor⟩, ⟨7, 4, 0, 15, .urgent, .governor⟩] : List Entry)
        = [⟨6, 4, 0, 15, .status, .governor⟩] ++ ⟨7, 4, 0, 15, .urgent, .governor⟩ :: []
      ∧ (∀ x ∈ ([⟨6, 4, 0, 15, .status, .governor⟩] : List Entry), x.cls ≠ .urgent)
      ∧ (withRead none 0 live).tw.read ≠ none ∧ (∀ x ∈ (withRead none 0 live).tw.queue, x.cls ≠ .urgent)
      ∧ live.tw.read = none := by decide +kernel

/-- A producer index entry. -/
def indexEntry : Entry := ⟨7, 0x4006C, 1, 0b1111, .event, .ring⟩

theorem test_TableWriterWritesTakeEffect_met :
    (∀ e, writing (withWrite e live) e ∧ e ∈ (withWrite e live).tw.queue
        ∧ ∀ x ∈ (withWrite e live).tw.queue, x.id < (withWrite e live).tw.nextId)
      ∧ bankEntry.mask = 0b1111 ∧ Mem.wf live.mem = true ∧ live.tw.waiting = [] ∧ live.ldr.closing = none
      ∧ bankEntry.origin ≠ .liveWord ∧ live.ldr.op = .supervising
      ∧ indexEntry.target = wordAt live.regions.ccp.base 27 ∧ indexEntry.origin ≠ .liveWord :=
  ⟨fun e => ⟨withWrite_writing _ _ rfl, by simp [withWrite], by simp [withWrite]⟩, by decide +kernel⟩

/-- The entry publication waits at its entry `i` behind a full queue, whose first write is in progress. -/
def publishing (i : Nat) : State :=
  let q := (List.range 16).map fun k => { bankEntry with id := k, target := 0x100000 + 4 * k }
  ((live.setLdr { live.ldr with pub := some i }).setTw
    { live.tw with queue := q, waiting := [.publication], nextId := 16 }).setPort
    { live.port with current := some (.twWrite { bankEntry with id := 0, target := 0x100000 }), owner := some .tw }

theorem test_TableWriterWritesTakeEffect_publication_met :
    (writing (publishing 777) { bankEntry with id := 0, target := 0x100000 }
        ∧ writing (publishing 778) { bankEntry with id := 0, target := 0x100000 })
      ∧ { bankEntry with id := 0, target := 0x100000 } ∈ (publishing 777).tw.queue
      ∧ ((publishing 777).tw.queue.map (·.id)).Nodup ∧ (publishing 777).tw.queue.length = 16
      ∧ (publishing 777).tw.waiting = [.publication] ∧ (publishing 777).ldr.pub = some 777
      ∧ (publishing 777).ldr.closing = none ∧ bankEntry.origin ≠ .liveWord
      ∧ (777 + 1 < pubCount (publishing 777) ∧ pubCount (publishing 778) ≤ 778 + 1) := by
  unfold writing; decide +kernel

/-- The write of `bankEntry` in progress while `x` waits for a free place. -/
def waitsFor (x : Waiter) : State :=
  (withWrite bankEntry live).setTw { (withWrite bankEntry live).tw with waiting := [x] }

/-- A table writer with one queued entry for word 8 and the waiting list `ws`. -/
def writerWith (cls : EntryClass) (ws : List Waiter) : TableWriter :=
  { live.tw with queue := [⟨3, 8, 1, 15, cls, .governor⟩], waiting := ws, nextId := 4 }

theorem test_QueuePlacesAreTakenAndGiven_put_met :
    (∃ e ∈ (writerWith .status []).queue, e.target = 8 ∧ (e.cls = .urgent ∨ e.cls = .status))
      ∧ (∀ e ∈ (writerWith .normal []).queue, ¬(e.target = 8 ∧ (e.cls = .urgent ∨ e.cls = .status)))
      ∧ (writerWith .normal []).waiting = [] ∧ (writerWith .normal []).queue.length < 16
      ∧ (writerWith .status [.value ⟨2, 12, 0, 15, .urgent, .governor⟩]).waiting
          = [.value ⟨2, 12, 0, 15, .urgent, .governor⟩]
      ∧ (∀ e ∈ (writerWith .status []).queue, ¬(e.target = 12 ∧ (e.cls = .urgent ∨ e.cls = .status)))
      ∧ (writerWith .status [.record .budget [12]]).waiting ≠ []
      ∧ (∀ l, .record .drop l ∉ (writerWith .status [.record .budget [12]]).waiting)
      ∧ .record .budget [12] ∈ (writerWith .status [.record .budget [12]]).waiting :=
  ⟨by decide, by decide, rfl, by decide, rfl, by decide, by decide, fun l => by simp [writerWith],
    by simp [writerWith]⟩

theorem test_QueuePlacesAreTakenAndGiven_given_met :
    (∀ x, writing (waitsFor x) bankEntry ∧ bankEntry ∈ (waitsFor x).tw.queue
        ∧ (waitsFor x).tw.queue.length ≤ 16 ∧ (waitsFor x).tw.waiting = [x])
      ∧ live.ldr.closing = none ∧ bankEntry.origin ≠ .liveWord ∧ indexEntry.isBankWrite = false
      ∧ 1 + (recordTargets live .budget).length ≤ 17 :=
  ⟨fun _ => ⟨⟨rfl, rfl, by simp [waitsFor, withWrite, writeInProgress, currentEntry]⟩,
    by simp [waitsFor, withWrite], by simp [waitsFor, withWrite], rfl⟩, by decide +kernel⟩

theorem test_QueuePlacesAreTakenAndGiven_publish_met :
    roomFor (waitsFor .publication |>.setTw { live.tw with queue := [bankEntry] }) 15
      ∧ (recordWords live .zoning).length ≤ 15 ∧ bankEntry.target ∉ recordTargets live .zoning :=
  ⟨⟨rfl, by decide +kernel⟩, by decide +kernel⟩

theorem test_AbandonedDataIsDiscarded_met :
    reading (withRead none 4 live) none 4 ∧ nothingWaits (withRead none 4 live)
      ∧ (withRead none 4 live).ldr.op ≠ .loading :=
  ⟨withRead_reading _ _ _ rfl, ⟨rfl, rfl⟩, by decide⟩

/-- A ring with records 62, 63 and 0 unconsumed. -/
def ringing : State := live.setRing ⟨1, 62, 1, 0, 0⟩

theorem test_ConsumerIndexIsChecked_met :
    activeSide ringing .a ∧ ccpWordAt ringing 28 ∧ ringing.regions.evr.present = true
      ∧ ringing.ring.consumer < ringing.params.ringCapacity
      ∧ ringing.ring.producer < ringing.params.ringCapacity
      ∧ (3 ≤ (1 + 64 - 62) % 64 ∧ (62 + 3) % 64 = (1#32).toNat)
      ∧ ringing.params.ringCapacity ≤ (64#32).toNat
      ∧ ∀ n ≤ (ringing.ring.producer + ringing.params.ringCapacity - ringing.ring.consumer)
          % ringing.params.ringCapacity,
        (ringing.ring.consumer + n) % ringing.params.ringCapacity ≠ (2#32).toNat :=
  ⟨⟨⟨⟨rfl, rfl⟩, rfl, rfl⟩, rfl⟩, live_ccp 28, by decide +kernel⟩

/-- `live` without the event ring. -/
def ringless : State := live.setRegions { map with evr := ⟨0x60000, 0x60000⟩ }

theorem test_ConsumerIndexIsChecked_forms_met :
    (activeSide live .a ∧ (BitVec.ofNat 24 0x40070).toNat = wordAt live.regions.ccp.base 28
        ∧ (0b0111 : BitVec 4) ≠ 0b1111)
      ∧ activeSide ringless .a ∧ ccpWordAt ringless 28 ∧ ringless.regions.evr.present = false
      ∧ (0#32 = 0 ∧ 1#32 ≠ 0) :=
  ⟨⟨live_active, by decide +kernel⟩, ⟨⟨⟨rfl, rfl⟩, rfl, rfl⟩, rfl⟩, by unfold ccpWordAt wordIn; decide +kernel⟩

theorem test_EventIsAppendedOrLost_met :
    State.reset.ldr.op ≠ .supervising ∧ live.ldr.op = .supervising ∧ live.regions.evr.present = true
      ∧ live.params.kindMask.getLsbD Kind.shed.code = false
      ∧ ((live.setRing ⟨61, 62, 1, 255, 0⟩).ring.producer + 1) % live.params.ringCapacity = 62
      ∧ (ringing.ring.producer + 1) % ringing.params.ringCapacity ≠ ringing.ring.consumer
      ∧ ringing.tw.waiting = [] ∧ ringing.tw.queue.length ≤ 11 := by decide +kernel

/-! ### Witnesses: fans -/

/-- A rotor that is measured. -/
def measured (phase : Phase) (edges periods : Nat) (spin : Timer) : Rotor :=
  ⟨phase, edges, periods, [9000], 9000, .ok, spin, 0⟩

theorem test_TachEdgesMeasure_met :
    (∀ r, running (withRotor r live) ∧ (withRotor r live).fan.rotors[(2 : RotorIx)] = r)
      ∧ (measured .stopped 0 0 .stopped).phase = .stopped
      ∧ (measured .waiting 0 65534 .stopped).periods < 65535
      ∧ (measured .timing 2 5 .stopped).edges < 3 ∧ 3 ≤ (measured .timing 3 399 .stopped).edges
      ∧ (measured .timing 3 65534 .stopped).periods < 65535
      ∧ (measured .timing 1 65535 .stopped).phase ≠ .stopped
      ∧ (measured .timing 1 65535 .stopped).periods = 65535 :=
  ⟨fun _ => ⟨⟨rfl, rfl⟩, rfl⟩, by decide +kernel⟩

/-- A curve of four points. -/
def curve : Vector CurvePoint 4 := ⟨#[⟨20, 30⟩, ⟨35, 50⟩, ⟨45, 70⟩, ⟨55, 100⟩], rfl⟩

/-- Every tray OK at Tc 40, on that curve. -/
def cooled (tc : Option Int) : State :=
  (live.setFan { live.fan with
    tc := tc, trays := Vector.replicate 4 ⟨.ok, 60, .stopped, .stopped, .stopped, true, false⟩ }).setParams
    { par with curve := curve, minDuty := 20 }

theorem test_TachEdgesMeasure_judged_met :
    (12857 * 70 / 100 ≤ (measured .timing 0 0 .stopped).filtered
        ∧ (measured .timing 0 0 .stopped).filtered < 12859 * 70 / 100
        ∧ (11250 * 80 / 100 ≤ (measured .timing 0 0 .stopped).filtered
          ∧ (measured .timing 0 0 .stopped).filtered < 11252 * 80 / 100))
      ∧ ((curve[(0 : Fin 4)]).temp < (curve[(1 : Fin 4)]).temp ∧ (curve[(1 : Fin 4)]).temp < (curve[(2 : Fin 4)]).temp
        ∧ (curve[(2 : Fin 4)]).temp < (curve[(3 : Fin 4)]).temp)
      ∧ (20 ≤ (curve[(0 : Fin 4)]).temp ∧ (curve[(3 : Fin 4)]).temp ≤ 55)
      ∧ ((curve[(1 : Fin 4)]).temp ≤ 44 ∧ 44 < (curve[(2 : Fin 4)]).temp
        ∧ (curve[(1 : Fin 4)]).duty ≤ (curve[(2 : Fin 4)]).duty)
      ∧ (cooled none).fan.tc = none ∧ (cooled (some 40)).fan.tc = some 40
      ∧ (∀ y : TrayIx, ((cooled (some 40)).fan.trays[y]).state = .ok)
      ∧ (∃ y : TrayIx, ((withTray ⟨.failed, 60, .stopped, .stopped, .stopped, true, false⟩ live).fan.trays[y]).state
          = .failed) := by decide +kernel

/-- Rotor 2 is OK in an OK tray, with four edges to come. -/
def steady : State :=
  let s := withRotor (measured .timing 3 1000 .stopped) live
  let s := s.setFan { s.fan with rotors := s.fan.rotors.set 3 (measured .timing 0 0 .stopped) }
  (withTray ⟨.ok, 60, .stopped, .stopped, .stopped, true, false⟩ s).setPins { live.pins with trayPres := 2 }

theorem test_TachEdgesMeasure_published_met :
    running steady ∧ roomFor steady 2
      ∧ seen (fun t => ((t.fan.rotors[(2 : RotorIx)]).state, (t.fan.trays[(1 : TrayIx)]).state,
          decide (recordWords t (.tray 1) = recordWords steady (.tray 1))))
          (exec (.goodMeasurement 2) steady) = some (.ok, .ok, false)
      ∧ ((2 : RotorIx).val = 2 * (1 : TrayIx).val ∧ (7 : RotorIx).val = 2 * (3 : TrayIx).val + 1) :=
  ⟨⟨rfl, rfl⟩, ⟨rfl, by decide +kernel⟩, by decide +kernel⟩

/-- Rotor 2 spins up in a fitted tray whose other rotor is OK. -/
def spinning : State :=
  let s := withRotor { measured .waiting 0 0 .expired with state := .spinup } live
  let s := s.setFan { s.fan with rotors := s.fan.rotors.set 3 (measured .waiting 0 0 .stopped) }
  (withTray ⟨.ok, 60, .stopped, .stopped, .stopped, true, false⟩ s).setPins
    { live.pins with trayPres := 2 }

theorem test_FanTimersExpire_met :
    (running spinning ∧ (spinning.fan.rotors[(2 : RotorIx)]).spin = .expired
        ∧ (spinning.fan.rotors[(2 : RotorIx)]).state = .spinup
        ∧ (spinning.fan.trays[trayOf 2]).state = derivedTray spinning (trayOf 2))
      ∧ (∀ y, running (withTray y live) ∧ (withTray y live).fan.trays[(1 : TrayIx)] = y)
      ∧ ((⟨.ok, 100, .expired, .expired, .expired, false, true⟩ : Tray).fall = .expired
          ∧ (withTray ⟨.ok, 100, .expired, .expired, .expired, false, true⟩
              (live.setFan { live.fan with target := 98 })).fan.target < 100) :=
  ⟨⟨⟨rfl, rfl⟩, by decide +kernel⟩, fun _ => ⟨⟨rfl, rfl⟩, rfl⟩, by decide +kernel⟩

theorem test_FanTimersExpire_published_met :
    (∀ y, imagesApart (withTray y live) ∧ roomFor (withTray y live) 2)
      ∧ (⟨.ok, 100, .expired, .expired, .expired, false, false⟩ : Tray).hold = false :=
  ⟨fun _ => ⟨live_imagesApart, rfl, (by decide : 0 + 2 ≤ 16)⟩, rfl⟩

theorem test_FanTimersExpire_hold_met :
    seen (fun t => (t.fan.holdSet, t.gov.thermal)) (exec (.derateTimerExpiry 1)
        (withTray ⟨.absent, 100, .stopped, .expired, .stopped, false, false⟩ live)) = some (0x0F, 0x0F)
      ∧ seen (fun t => (t.fan.holdSet, t.gov.thermal)) (exec (.recoveryTimerExpiry 1)
          ((withTray ⟨.ok, 100, .stopped, .stopped, .expired, false, true⟩ live).setFan
            { (withTray ⟨.ok, 100, .stopped, .stopped, .expired, false, true⟩ live).fan with holdSet := 0x0F }))
          = some (0, 0) := by decide +kernel

theorem test_TrayLinesChangeTrays_met :
    running live ∧ live.pins.trayPres.getLsbD 3 = false ∧ running spinning
      ∧ spinning.pins.trayPres.getLsbD 1 = true :=
  ⟨⟨rfl, rfl⟩, by decide +kernel, ⟨rfl, rfl⟩, by decide +kernel⟩

theorem test_TrayLinesChangeTrays_timers_met :
    (running live ∧ trayBad live.params 3 (live.fan.trays[(3 : TrayIx)]).state = true)
      ∧ ((spinning.params.trays[(1 : TrayIx)]).cooling ≠ 0
        ∧ trayBad spinning.params 1 (spinning.fan.trays[(1 : TrayIx)]).state = false)
      ∧ targetOf live.params live.fan = live.fan.target
      ∧ targetOf (cooled (some 40)).params (cooled (some 40)).fan ≠ (cooled (some 40)).fan.target
      ∧ (targetOf (cooled (some 40)).params (cooled (some 40)).fan = 60
        ∧ ∀ y : TrayIx, ((cooled (some 40)).fan.trays[y]).duty = 60) := by
  unfold running; decide +kernel

theorem test_TrayLinesChangeTrays_event_met :
    (live.fan.trays[(3 : TrayIx)]).state = .absent
      ∧ seen (fun t => ((t.fan.trays[(3 : TrayIx)]).state, t.alm.conds[traySource 3], t.ring.producer))
          (exec (.trayInsertion 3) live) = some (.ok, .none, 1) := by decide +kernel

theorem test_TrayLinesChangeTrays_own_met :
    (∃ r, (Instr.stalledMeasurement 2 = .tachEdge r ∨ Instr.stalledMeasurement 2 = .goodMeasurement r
        ∨ Instr.stalledMeasurement 2 = .stalledMeasurement r ∨ Instr.stalledMeasurement 2 = .spinUpExpiry r)
        ∧ ∀ q : RotorIx, q = 2 ↔ q = r)
      ∧ ∃ y, (Instr.trayRemoval 1 = .trayInsertion y ∨ Instr.trayRemoval 1 = .trayRemoval y)
        ∧ ∀ q : RotorIx, trayOf q = 1 ↔ trayOf q = y :=
  ⟨⟨2, .inr (.inr (.inl rfl)), fun _ => .rfl⟩, 1, .inr rfl, fun _ => .rfl⟩

theorem test_follow_rises_at_once_and_starts_the_fall_timer :
    (⟨.ok, 60, .running 5, .stopped, .stopped, true, false⟩ : Tray).follow 70
        = ⟨.ok, 70, .stopped, .stopped, .stopped, true, false⟩
      ∧ (⟨.ok, 60, .stopped, .stopped, .stopped, true, false⟩ : Tray).follow 59
        = ⟨.ok, 60, .running 100, .stopped, .stopped, true, false⟩ := by decide

theorem test_CriticalHoldFollowsTc_met :
    live.params.critical ≤ 70 ∧ 64 < live.params.critical - 5 ∧ live.params.critical - 5 ≤ 65
      ∧ (69 : Int) ≤ live.params.critical - 1
      ∧ (handFanTc (some 70) live).fan.critHold ≠ live.fan.critHold ∧ dutiesAtTarget live := by
  unfold dutiesAtTarget; decide +kernel

/-! ### Witnesses: modules, the link and alarms -/

theorem test_DebouncedChangeIsJudged_met :
    (∀ m, running (withModule m live) ∧ (withModule m live).mdl.mods[(2 : ModIx)] = m)
      ∧ ({ Module.powerOn with pres := ⟨true, 0, true⟩ } : Module).pres.due = true
      ∧ ({ Module.powerOn with good := ⟨false, 0, true⟩ } : Module).good.due = true :=
  ⟨fun _ => ⟨⟨rfl, rfl⟩, rfl⟩, rfl, rfl⟩

theorem test_DebouncedChangeIsJudged_published_met :
    (∀ m, imagesApart (withModule m live) ∧ roomFor (withModule m live) 2)
      ∧ ({ Module.powerOn with reading := none } : Module).validity ≠ .stale :=
  ⟨fun _ => ⟨live_imagesApart, rfl, (by decide : 0 + 2 ≤ 16)⟩, by decide⟩

/-- A fitted module in order, judged, with a report of the given validity and its fan at fault. -/
def faulty (validity : Validity) : Module :=
  { Module.powerOn with
    pres := ⟨true, 0, false⟩, good := ⟨true, 0, false⟩, judged := true, state := .healthy
    validity := validity, reading := some ⟨900, 41, false, false, true⟩ }

/-- The table of 10 R163, a case for each of its lines. -/
theorem test_moduleStateFollowsLinesAndReport :
    Module.powerOn.derive = .absent ∧ ({ faulty .valid with good := ⟨false, 0, false⟩ } : Module).derive = .failed
      ∧ (faulty .stale).derive = .degraded
      ∧ ({ faulty .valid with reading := some ⟨900, 41, false, false, false⟩ } : Module).derive = .healthy
      ∧ ({ faulty .none with reading := none } : Module).derive = .healthy := by decide

theorem test_DebouncedChangeIsJudged_severity_met :
    (faulty .stale).judged = true ∧ (faulty .stale).state ≠ .failed
      ∧ Module.powerOn.judged = false ∧ (par.mods[(2 : ModIx)]).capacity ≠ 0
      ∧ (Params.none.mods[(2 : ModIx)]).capacity = 0 ∧ (faulty .valid).validity ≠ .stale
      ∧ seen (fun t => ((t.mdl.mods[(2 : ModIx)]).state, t.alm.conds[moduleSource 2]))
          (exec (.debouncedChange 2 .good) (withModule { faulty .valid with good := ⟨true, 0, true⟩ } live))
        = some (.failed, .major)
      ∧ seen (fun t => (t.mdl.mods[(2 : ModIx)]).state)
          (exec (.debouncedChange 2 .good)
            (withModule { faulty .valid with good := ⟨false, 0, true⟩, state := .degraded } live))
        = some .degraded := by decide +kernel

theorem test_DebouncedChangeIsJudged_handed_met :
    seen (fun t => (t.gov.modState[(2 : ModIx)], (t.mdl.mods[(2 : ModIx)]).state))
        (exec (.debouncedChange 2 .good) (withModule { faulty .valid with good := ⟨true, 0, true⟩ } live))
      = some (.failed, .failed) ∧ (faulty .valid).state = .healthy := by decide +kernel

/-- The module unit with its poll timer expired. -/
def pollDue (round : Option ModIx) (m : Module) : State :=
  (withModule m live).setMdl { (withModule m live).mdl with pollTimer := .expired, round := round }

theorem test_PollRoundsBegin_met :
    (∀ r m, (pollDue r m).pins.inReset = false ∧ (pollDue r m).mdl.pollTimer = .expired
        ∧ (pollDue r m).mdl.round = r)
      ∧ ((pollDue none { Module.powerOn with pres := ⟨true, 0, false⟩ }).mdl.mods[(2 : ModIx)]).pres.level
          = true
      ∧ (∀ j : ModIx, j < 2 →
          ((pollDue none { Module.powerOn with pres := ⟨true, 0, false⟩ }).mdl.mods[j]).pres.level = false)
      ∧ (∀ i : ModIx, ((pollDue none Module.powerOn).mdl.mods[i]).pres.level = false)
      ∧ ((live.setMdl { live.mdl with attempt := some ⟨2, 0x20, false, false, false⟩ }).mdl.linkBusy = false
          ∧ (live.setMdl { live.mdl with attempt := some ⟨2, 0x20, false, false, false⟩ }).mdl.leftover = []
          ∧ (live.setMdl { live.mdl with attempt := some ⟨2, 0x20, false, false, false⟩ }).mdl.stuckDue = false) :=
  ⟨fun _ _ => ⟨rfl, rfl, rfl⟩, by decide +kernel⟩

/-- The four bytes that the part sends in a poll of link address 20H, and the first that it reads, bit by bit. -/
def sentSymbols : List LinkSymbol :=
  [.start, .send false, .send true, .send false, .send false, .send false, .send false, .send false, .send false,
    .receive false, .send false, .send false, .send false, .send false, .send false, .send false, .send false,
    .send false, .receive false, .send false, .send false, .send false, .send false, .send false, .send true,
    .send false, .send true, .receive false, .repeatedStart, .send false, .send true, .send false, .send false,
    .send false, .send false, .send false, .send true, .receive false]

def readSymbols : List LinkSymbol :=
  [.receive true, .receive false, .receive false, .receive false, .receive false, .receive true, .receive false,
    .receive false, .send false]

theorem test_linkTransaction_of_one_poll :
    linkTransaction 0x20 (.bytes 0x84 0x03 0x29 0x04 0x3A) =
      sentSymbols ++ readSymbols ++ receiveByte false 0x03 ++ receiveByte false 0x29 ++ receiveByte false 0x04
        ++ receiveByte true 0x3A ++ [.stop] := by decide +kernel

/-- A loss at a bit that is sent high, at its first and last bit, and none at one that is sent low. -/
theorem test_linkLoss_at_the_bits_of_the_address :
    (linkLoss 0x40 (.bit 0 0)).isSome = true ∧ linkLoss 0x40 (.bit 0 7) = none
      ∧ (linkLoss 0x40 (.bit 3 7)).isSome = true ∧ linkLoss 0x40 (.bit 1 0) = none
      ∧ linkLoss 0x40 (.bit 0 0) = some [.start, .lost] ∧ linkLoss 0x40 .start = some [] := by decide +kernel

/-- A bit changes LINK_DATA while LINK_CLK is low, and a condition while it is high. -/
theorem test_linkLevels_of_a_start_a_bit_and_a_stop :
    linkLevels true [.start, .send true, .stop] =
      [⟨true, false⟩, ⟨false, false⟩, ⟨false, true⟩, ⟨true, true⟩, ⟨false, true⟩, ⟨false, false⟩, ⟨true, false⟩,
        ⟨true, true⟩] := by decide

/-- An attempt at module 2 on the link. -/
def attempting (retry stuck : Bool) : State :=
  let s := withModule { Module.powerOn with pres := ⟨true, 0, false⟩, failures := 254 } live
  s.setMdl { s.mdl with attempt := some ⟨2, 0x20, retry, true, false⟩, stuckDue := stuck, linkBusy := true }

theorem test_AttemptsAreJudged_met :
    (∀ r k, (attempting r k).pins.inReset = false ∧ (attempting r k).mdl.leftover = []
        ∧ (attempting r k).mdl.attempt = some ⟨2, 0x20, r, true, false⟩ ∧ (attempting r k).mdl.stuckDue = k)
      ∧ crc8 (pollSent (par.mods[(2 : ModIx)]).address ++ [0, 0, 0, 0])
          ≠ crc8 (pollSent (par.mods[(2 : ModIx)]).address ++ [0, 0, 0, 0]) + 1
      ∧ ((attempting false true).mdl.mods[(2 : ModIx)]).pres.level = true
      ∧ ((attempting false true).mdl.mods[(2 : ModIx)]).failures < 255 :=
  ⟨fun _ _ => ⟨rfl, rfl, rfl, rfl⟩, by decide +kernel⟩

theorem test_AttemptsAreJudged_third_met :
    let s := withModule { (attempting false false).mdl.mods[(2 : ModIx)] with failures := 2 } (attempting false false)
    s.pins.inReset = false ∧ s.mdl.leftover = [] ∧ s.mdl.attempt = some ⟨2, 0x20, false, true, false⟩
      ∧ (s.mdl.mods[(2 : ModIx)]).failures = 2 := by decide +kernel

theorem test_AttemptsAreJudged_published_met (r k : Bool) :
    imagesApart (attempting r k) ∧ roomFor (attempting r k) 2 :=
  ⟨live_imagesApart, rfl, (by decide : 0 + 2 ≤ 16)⟩

/-- Two attempts left over by closings, the first on the link. -/
def leftOver : State :=
  (attempting false false).setMdl { (attempting false false).mdl with
    leftover := [⟨1, 0x20, false, true, true⟩, ⟨0, 0x20, false, false, true⟩] }

theorem test_AttemptsAreJudged_leftover_met :
    leftOver.pins.inReset = false
      ∧ leftOver.mdl.leftover = ⟨1, 0x20, false, true, true⟩ :: [⟨0, 0x20, false, false, true⟩]
      ∧ leftOver.mdl.stuckDue = false ∧ (attempting false true).mdl.stuckDue = true := by decide +kernel

/-- A recovery ends the attempt left over alone; the round's own goes on (log 41). -/
theorem test_AttemptsAreJudged_recovery_met :
    let s := leftOver.setMdl { leftOver.mdl with stuckDue := true }
    s.pins.inReset = false ∧ s.mdl.stuckDue = true ∧ s.mdl.leftover ≠ [] := by decide +kernel

/-- The round stands at position 1 with its attempt discarded, a round due as given; position 2 is fitted. -/
def discarding (due retry stuck : Bool) : State :=
  (attempting retry stuck).setMdl { (attempting retry stuck).mdl with
    attempt := some ⟨1, 0x20, retry, true, true⟩, round := some 1, roundDue := due }

theorem test_AttemptsAreJudged_discard_met (due retry stuck : Bool) :
    (discarding due retry stuck).pins.inReset = false ∧ (discarding due retry stuck).mdl.leftover = []
      ∧ (discarding due retry stuck).mdl.attempt = some ⟨1, 0x20, retry, true, true⟩
      ∧ (discarding due retry stuck).mdl.stuckDue = stuck ∧ (discarding due retry stuck).mdl.roundDue = due
      ∧ ((discarding due retry stuck).mdl.mods[(1 : ModIx)]).pres.level = false
      ∧ ((discarding due retry stuck).mdl.mods[(2 : ModIx)]).pres.level = true
      ∧ (∀ j : ModIx, 2 < j → ((discarding false false false).mdl.mods[j]).pres.level = false)
      ∧ linkLoss 0x20 .start = some [] ∧ linkLoss 0x20 (.bit 0 0) = none ∧ (linkLoss 0x20 (.bit 0 1)).isSome = true :=
  ⟨rfl, rfl, rfl, rfl, rfl, rfl, rfl, by decide +kernel, by decide +kernel⟩

/-- The third failure makes the report STALE; the round goes on to the next fitted position, or ends, or begins again
where one is due. -/
theorem test_theRoundGoesOnAfterAnAttempt :
    seen (fun t => (t.mdl.round, t.mdl.attempt)) (exec (.pollAttemptEnd (.noAck 3)) (discarding false false false))
        = some (some 2, some (freshAttempt par 2 false))
      ∧ seen (fun t => (t.mdl.round, t.mdl.attempt, (t.mdl.mods[(2 : ModIx)]).failures, t.mdl.wire.length))
          (exec .linkStuck (attempting false true)) = some (none, none, 255, 10)
      ∧ seen (fun t => (t.mdl.round, t.mdl.roundDue, t.mdl.pollTimer))
          (exec .linkStuck ((attempting false true).setMdl { (attempting false true).mdl with roundDue := true }))
          = some (some 2, false, .running 100) := by decide +kernel

/-- `s` with the two counts of the link as given. -/
def withCounts (held busy : Nat) (s : State) : State :=
  s.setMdl { s.mdl with heldClock := held, busyCount := busy }

/-- What a reference period does to the units: a rotor of each kind, counts at their bounds, and the two sides of
the thousandth period. -/
theorem test_EmptyQueueStepIsReferencePeriod_units_met :
    (∀ r, (withRotor r live).pending = [] ∧ running (withRotor r live) ∧ (withRotor r live).mdl.stuckDue = false
        ∧ (withRotor r live).fan.rotors[(2 : RotorIx)] = r)
      ∧ (measured .stopped 0 0 .stopped).phase = .stopped
      ∧ ((measured .waiting 0 65534 .stopped).phase ≠ .stopped ∧ (measured .waiting 0 65534 .stopped).periods ≠ 65535)
      ∧ ((measured .timing 1 65535 .stopped).phase ≠ .stopped ∧ (measured .timing 1 65535 .stopped).periods = 65535)
      ∧ (∀ r : RotorIx, (live.fan.rotors[r]).phase ≠ .stopped → (live.fan.rotors[r]).periods ≠ 65535)
      ∧ linkCounts true (withCounts 2500 0 (attempting false false)).mdl 2501 0
      ∧ linkCounts false (withCounts 2499 2500 leftOver).mdl 0 2501 ∧ linkCounts true live.mdl 0 0
      ∧ ((1000 ≤ (live.setTime { live.time with refCount := 999 }).time.refCount + 1)
        ∧ (live.setTime { live.time with refCount := 998 }).time.refCount + 1 < 1000) := by
  refine ⟨fun _ => ⟨rfl, ⟨rfl, rfl⟩, rfl, rfl⟩, ?_⟩
  unfold linkCounts; decide +kernel

/-- A module with a VALID report at `inlet` degrees. -/
def reporting (inlet : Int) (power : Nat) : Module :=
  { Module.powerOn with
    pres := ⟨true, 0, true⟩, validity := .valid, reading := some ⟨power, inlet, false, false, false⟩ }

theorem test_TemperatureAndOverdrawFollowReports_met :
    (∀ i : ModIx, (live.mdl.mods[i]).validity ≠ .valid)
      ∧ ((withModule (reporting 41 900) live).mdl.mods[(2 : ModIx)]).validity = .valid
      ∧ ((withModule (reporting 41 900) live).mdl.mods[(2 : ModIx)]).reading
          = some ⟨900, 41, false, false, false⟩
      ∧ tcOf (withModule (reporting 41 900) live).mdl.mods = some 41
      ∧ tcOf live.mdl.mods = live.mdl.tc ∧ tcOf (withModule (reporting 41 900) live).mdl.mods ≠ live.mdl.tc
      ∧ decide ((withModule (reporting 41 900) live).mdl.available < 900) ≠ live.mdl.overdraw
      ∧ (1 : Nat) ≠ live.mdl.available
      ∧ par.critical ≤ 70 ∧ (69 < par.critical ∧ par.warn ≤ 69) ∧ (59 < par.critical ∧ 59 < par.warn)
      ∧ (attempting false false).mdl.attempt = some ⟨2, 0x20, false, true, false⟩
      ∧ running (withModule (reporting 41 900) live)
      ∧ ((withModule (reporting 41 900) live).mdl.mods[(2 : ModIx)]).pres.due = true
      ∧ (withModule (reporting 41 900) live).fan.tc = (withModule (reporting 41 900) live).mdl.tc := by
  unfold running; decide +kernel

theorem test_TemperatureAndOverdrawFollowReports_published_met :
    imagesApart (withModule (reporting 41 900) live) ∧ roomFor (withModule (reporting 41 900) live) 3
      ∧ reportedSumOf (withModule (reporting 41 900) live).mdl.mods
          ≠ (withModule (reporting 41 900) live).mdl.reportedSum
      ∧ tcOf (withModule (reporting 41 900) live).mdl.mods ≠ (withModule (reporting 41 900) live).mdl.tc :=
  ⟨live_imagesApart, ⟨rfl, by decide +kernel⟩, by decide +kernel⟩

/-- Two entries on the alarm list. -/
def alarming (clear : Timer) : State :=
  live.setAlm { live.alm with list := [⟨0, .minor, 0, false, clear⟩, ⟨19, .critical, 0, false, clear⟩] }

theorem test_AlarmListFollowsConditions_met :
    activeSide (alarming .stopped) .a ∧ ccpWordAt (alarming .stopped) 12
      ∧ (alarming .stopped).ldr.closing = none ∧ (alarming .stopped).ctl.alarmAck.state ≠ .running
      ∧ (∃ e ∈ (alarming .stopped).alm.list, e.source.val = (19 : Byte).toNat)
      ∧ live.alm.conds[(19 : Source)] ≠ .minor
      ∧ (∀ e ∈ live.alm.list, e.source ≠ 19) ∧ (∃ e ∈ (alarming .stopped).alm.list, e.source = 19)
      ∧ (live.setAlm { live.alm with conds := live.alm.conds.set 19 .major }).alm.conds[(19 : Source)] ≠ .none
      ∧ (alarming .expired).pins.inReset = false
      ∧ (∃ e ∈ (alarming .expired).alm.list, e.source = 0)
      ∧ (∀ e ∈ (alarming .expired).alm.list, e.source = 0 → e.clear = .expired)
      ∧ (live.setAlm { live.alm with pattern := .redFlash, flash := .expired }).alm.flash = .expired :=
  ⟨⟨⟨⟨rfl, rfl⟩, rfl, rfl⟩, rfl⟩, live_ccp 12, by decide +kernel⟩

theorem test_AlarmListFollowsConditions_published_met :
    (alarmsDistinct live ∧ roomFor live 8
        ∧ ∃ w ∈ recordWords (setSource 19 .minor live) .alarms, w ∉ recordWords live .alarms)
      ∧ (imagesApart (alarming .stopped) ∧ roomFor (alarming .stopped) (1 + (alarming .stopped).alm.list.length))
      ∧ roomFor (alarming .expired) (6 + 2 * (alarming .expired).alm.list.length) := by
  refine ⟨⟨by unfold alarmsDistinct; decide +kernel, ⟨rfl, by decide +kernel⟩, by decide +kernel⟩,
    ⟨live_imagesApart, rfl, by decide +kernel⟩, rfl, by decide +kernel⟩

theorem test_AlarmListFollowsConditions_events_met :
    (alarmsDistinct (alarming .stopped) ∧ alarmsDistinct (alarming .expired))
      ∧ (alarming .stopped).alm.conds[(19 : Source)] ≠ .minor
      ∧ (∃ e ∈ (alarming .stopped).alm.list, e.source = 19) ∧ (∀ e ∈ live.alm.list, e.source ≠ 19)
      ∧ (setSource 19 .minor (alarming .stopped)).ring.producer = 1 ∧ (setSource 19 .minor live).ring.producer = 1 := by
  unfold alarmsDistinct; decide +kernel

/-! ### Witnesses: frames and invariants -/

/-- A write through the edit window is held. -/
def holding : State :=
  live.setBus { live.bus with a := { live.bus.a with held := some ⟨0x110018, .single ⟨5, 15⟩, false⟩ } }

theorem holding_heldInWindow : heldInWindow (withWrite bankEntry holding) := by
  refine ⟨by unfold Regions.aligned; decide +kernel, by unfold Regions.aligned; decide +kernel,
    fun d h hh => ⟨rfl, ?_⟩⟩
  cases d
  · obtain rfl : h = ⟨0x110018, .single ⟨5, 15⟩, false⟩ := (Option.some.inj hh).symm
    decide +kernel
  · exact absurd (show (none : Option HeldWrite) = some h from hh) (by simp)

theorem test_TableMemoryFrame_met :
    portEnd (.heartbeat .a ⟨0, 15⟩ false) = false ∧ (∃ t, exec (.heartbeat .a ⟨0, 15⟩ false) live = .next t)
      ∧ portEnd (.accessEnd 0) = true ∧ (∃ t, exec (.accessEnd 0) (withWrite bankEntry live) = .next t)
      ∧ ∀ b ∈ storedWords (withWrite bankEntry live), 0x108008 < b ∨ b + 4 ≤ 0x108008 :=
  ⟨rfl, ⟨_, rfl⟩, rfl, ⟨_, rfl⟩, by decide +kernel⟩

theorem test_UnitCommandsFrame_met : ∃ t, exec (.trayInsertion 3) live = .next t := ⟨_, rfl⟩

theorem test_BusLineAndPortCommandsFrame_met :
    (∃ t, exec (.claim .b 9 false) live = .next t)
      ∧ requestOf (.claim .b 9 false) = some (.b, .mastership, (requestValue 1 0 9).value, false)
      ∧ requestWordAt live .mastership ∧ (∃ t, exec (.runDeassert .b) live = .next t)
      ∧ portEnd .twWritePerformed = true
      ∧ (∃ t, exec .twWritePerformed (withWrite bankEntry live) = .next t ∧ t.ldr.op = .supervising)
      ∧ (∀ w, ¬reading (withWrite bankEntry live) (some .loader) w)
      ∧ heldInWindow (withWrite bankEntry holding) ∧ holding.bus.a.held ≠ none :=
  ⟨⟨_, rfl⟩, rfl, live_ccp 0, ⟨_, rfl⟩, rfl, ⟨_, rfl, by decide +kernel⟩,
    fun _ h => absurd h.2.1 (by decide +kernel), holding_heldInWindow, by decide⟩

theorem test_StepKeepsTablePathSound_met :
    (servesItsOwner live ∧ servesItsOwner (withWrite bankEntry live)
        ∧ servesItsOwner ((serving (wordRead false)).setPort
            { (serving (wordRead false)).port with owner := some (.ofSide .b) }))
      ∧ queueBounded live ∧ parkedWhenIdle live ∧ parkedWhenIdle (serving (wordRead false))
      ∧ heldInWindow (withWrite bankEntry holding) :=
  ⟨⟨trivial, rfl, rfl⟩, by unfold queueBounded; decide, by unfold parkedWhenIdle; decide,
    by unfold parkedWhenIdle; decide +kernel,
    holding_heldInWindow⟩

theorem test_StepKeepsMemorySound_met : memorySound State.reset ∧ memorySound (loadReading 0 9) := by
  unfold memorySound; decide +kernel

theorem test_StepKeepsUnitLaws_met :
    alarmsDistinct (alarming .stopped) ∧ patternFollows live
      ∧ patternFollows (withAlarm .critical true live)
      ∧ suspensionNamed State.reset ∧ suspensionNamed (withZon .suspended (some .marking) live)
      ∧ dutiesAtTarget (withTray ⟨.ok, 100, .stopped, .stopped, .stopped, true, false⟩ live) := by
  unfold alarmsDistinct patternFollows suspensionNamed dutiesAtTarget; decide +kernel

theorem test_StepKeepsUnitLaws_rest_met : unitsAtRest State.reset ∧ unitsAtRest enteringWith ∧ unitsAtRest live :=
  ⟨fun _ => ⟨rfl, rfl, rfl, rfl, rfl, rfl, rfl, by decide +kernel, rfl, rfl, rfl,
      fun _ h => absurd (show (none : Option OutRead) = some _ from h) (by simp), fun _ h => absurd h List.not_mem_nil⟩,
    enteringWith_atRest, fun h => absurd rfl h⟩

theorem test_StepKeepsGovernorSound_met : governorSound live := by
  have hp : ∀ q : Port, live.gov.ports[q] = PortEntry.powerOn := fun q => by
    simp [live, Governor.recompute, Governor.powerOn]
  have hd : drawsOn live = 0 := by
    unfold drawsOn
    rw [show (fun q : Port => if (live.gov.ports[q]).effective then draw live q else 0) = fun _ => 0 from
      funext fun q => by simp [hp q, PortEntry.powerOn]]
    decide +kernel
  refine ⟨⟨List.nodup_nil, fun q => ?_, fun q h => ?_⟩, ⟨hd.symm ▸ rfl, Nat.zero_le _⟩,
    ⟨List.nodup_nil, fun _ h => absurd h List.not_mem_nil⟩, ?_, fun _ _ => rfl⟩
  · simp [hp q, PortEntry.powerOn, show live.gov.held = [] from rfl]
  · simp [hp q, PortEntry.powerOn] at h
  · unfold ranksClamped; decide +kernel

theorem test_SupplyAndFanLoadFigures_committed_met :
    live.gov.committed = drawsOn live ∧ (expiring 1).gov.committed = drawsOn (expiring 1) :=
  ⟨test_StepKeepsGovernorSound_met.2.1.1, (expiring_drawsOn 1).symm⟩

theorem test_everyStepAnswersNext (s : State) (h : s.pending = []) : ∃ t, step s = .next t := by
  simp [step, h]

/-! ### A few steps -/

theorem test_claimBecomesPending :
    seen (fun t => (t.mast.claim, t.ctl.mastership.state)) (exec (.claim .b 9 false) live)
      = some (some ⟨.b, 9⟩, .running) := by decide +kernel

theorem test_standbyWriteIsDropped :
    seen (fun t => t.drop) (exec (.upstreamWrite .b 0x10004 (.single ⟨1, 15⟩) false) live)
      = some ⟨1, 0x10004, .b, .standby⟩ := by decide +kernel

theorem test_heartbeatIsPerformed :
    seen (fun t => (Mem.readWord t.mem 0x40060, (t.bus.get .a).done))
      (step ((State.setPending live []).setPort { live.port with
        current := some (.up .a ⟨0x40060, false, false, .write [⟨.plain 0x40060, 3, 15, none⟩]⟩) } |>.setPending
          [.accessEnd 0])) = some (3, .write) := by decide +kernel

theorem test_loadStartEntersLoading :
    seen (fun t => (t.ldr.op, t.ldr.position, t.tw.queue.map (·.target)))
      (exec (.loadStart .b ⟨0, 15⟩ false) State.reset) = some (.loading, 0, [0x7FE04]) := by decide +kernel

theorem test_desiredOnWithoutLicenceIsHeld :
    seen (fun t => ((t.gov.ports[(5 : Port)]).reason, t.gov.held)) (exec (.desiredOn .a 5 ⟨1, 1⟩ false) live)
      = some (.unlicensed, [5]) := by decide +kernel

theorem test_tickAdvancesTheTimers :
    seen (fun t => (t.mast.timerA, t.time.hourCount)) (exec (.tick 0 0) live) = some (.running 299, 1) := by
  decide +kernel

theorem test_markingQueuesTheMarkedEntry :
    seen (fun t => (t.zon.op, t.zon.pos, t.zon.masked, t.tw.queue.map fun e => (e.target, e.value)))
      (exec (.commitReadData false) (marking 2 0xA0009))
      = some (.marking, 8, 1, [(0x108018, 0x01020001), (0x10801C, 0x800A0009)]) := by decide +kernel

theorem test_trayInsertionStartsItsRotors :
    seen (fun t => ((t.fan.rotors[(2 : RotorIx)]).state, (t.fan.rotors[(3 : RotorIx)]).spin,
      t.gov.trayPresent)) (exec (.trayInsertion 1) live) = some (.spinup, .running 30, 2) := by decide +kernel

end Sys2Proof.Tests
end

/-! The straps (02 R23): no event but the deassertion of PWRUP_RESET changes the two sampled values, and the
memory size and the descriptor base they give. -/

namespace Sys2Proof.Machine

/-! ### The strap values of a state -/

/-- The two strap values that the part has sampled. -/
def straps (s : State) : BitVec 2 × BitVec 2 := (s.pins.memSel, s.pins.descSel)

theorem straps_eq_iff {s t : State} :
    straps t = straps s ↔ t.pins.memSel = s.pins.memSel ∧ t.pins.descSel = s.pins.descSel := by
  simp [straps]

/-- Every part of the state but the lines and straps. -/
def notPins (x : Part) : Bool := x != .pins

@[simp] theorem notPins_eq_true {x : Part} : notPins x = true ↔ x ≠ .pins := by simp [notPins]

/-- Two states that agree outside the parts of `notPins` hold the same strap values. -/
theorem straps_of_without {s t : State} (h : t.without notPins = s.without notPins) : straps t = straps s := by
  rw [straps, straps, State.pins_of_without h rfl]

/-! ### The end of an access leaves the lines and straps -/

theorem startPerformed_notPins (d a) (s : State) :
    (startPerformed d a s).without notPins = s.without notPins := by
  unfold startPerformed; split <;> simp

theorem performWrite_notPins (ops) (s : State) : (performWrite ops s).without notPins = s.without notPins :=
  foldl_without performOp (fun s op => by simp [performOp]) ops s

theorem endUp_notPins (d a errs) (s : State) : (endUp d a errs s).without notPins = s.without notPins := by
  unfold endUp
  cases a.body with
  | read ts => simp
  | write ops => simp [startPerformed_notPins, performWrite_notPins]

theorem performEntry_notPins (e) (s : State) : (performEntry e s).without notPins = s.without notPins := by
  simp [performEntry]

theorem notePublished_notPins (e) (s : State) : (notePublished e s).without notPins = s.without notPins := by
  unfold notePublished; split <;> simp

theorem noteVerdict_notPins (e) (s : State) : (noteVerdict e s).without notPins = s.without notPins := by
  unfold noteVerdict; split <;> simp

theorem noteFlip_notPins (e) (s : State) : (noteFlip e s).without notPins = s.without notPins := by
  unfold noteFlip; split <;> simp

/-- The end of a closing gives every unit its power-on value, and keeps the sampled straps (02 R38). -/
theorem closingEnd_notPins (s : State) : (closingEnd s).without notPins = s.without notPins := rfl

theorem noteClosing_notPins (s : State) : (noteClosing s).without notPins = s.without notPins := by
  unfold noteClosing; split
  · exact closingEnd_notPins s
  · rfl

theorem endWrite_notPins (e) (s : State) : (endWrite e s).without notPins = s.without notPins := by
  simp [endWrite, noteClosing_notPins, noteFlip_notPins, noteVerdict_notPins, notePublished_notPins,
    performEntry_notPins]

theorem deliver_notPins (op w err) (s : State) : (deliver op w err s).without notPins = s.without notPins := by
  unfold deliver
  split
  · rfl
  · split <;> simp
  · simp
  · split <;> simp

theorem endRead_notPins (err) (s : State) : (endRead err s).without notPins = s.without notPins := by
  unfold endRead
  cases s.tw.read <;> simp [deliver_notPins]

theorem endAccess_notPins (errs) (s : State) : (endAccess errs s).without notPins = s.without notPins := by
  unfold endAccess
  split
  · rfl
  · exact endUp_notPins ..
  · exact endWrite_notPins ..
  · exact endRead_notPins ..

/-! ### The line events keep the strap values -/

@[simp] theorem straps_setRun (d b) (s : State) : straps (setRun d b s) = straps s := by cases d <;> rfl
@[simp] theorem straps_setSlotLine (k b) (s : State) : straps (setSlotLine k b s) = straps s := rfl
@[simp] theorem straps_setTrayLine (t b) (s : State) : straps (setTrayLine t b s) = straps s := rfl
@[simp] theorem straps_setBypass (b) (s : State) : straps (setBypass b s) = straps s := rfl
@[simp] theorem straps_setClkLine (b) (s : State) : straps (setClkLine b s) = straps s := rfl
@[simp] theorem straps_sampleTick (pres good) (s : State) : straps (sampleTick pres good s) = straps s := rfl
@[simp] theorem straps_linkChange (busy clkLow) (s : State) : straps (linkChange busy clkLow s) = straps s := rfl
@[simp] theorem straps_resetAsserts (s : State) : straps (resetAsserts s) = straps s := rfl

/-- A line changes, and in SUPERVISING a unit follows it: every line event has this form. -/
theorem straps_lineThenUnit {line unit : State → State} {s : State} (hl : straps (line s) = straps s)
    (hu : ∀ x : State, (unit x).without notPins = x.without notPins) :
    straps (if supervising (line s) then unit (line s) else line s) = straps s := by
  split
  · exact (straps_of_without (hu _)).trans hl
  · exact hl

@[simp] theorem straps_runDeasserts (d) (s : State) : straps (runDeasserts d s) = straps s :=
  straps_lineThenUnit (line := fun x => endLock d (setRun d false x)) (unit := runLost d)
    ((straps_of_without (endLock_without d _ rfl)).trans (straps_setRun d false s)) fun x => by simp

@[simp] theorem straps_runAsserts (d) (s : State) : straps (runAsserts d s) = straps s :=
  straps_lineThenUnit (straps_setRun d true s) fun x => by simp

@[simp] theorem straps_slotDeasserts (k) (s : State) : straps (slotDeasserts k s) = straps s :=
  straps_lineThenUnit (straps_setSlotLine k false s) fun x => by simp

@[simp] theorem straps_slotAsserts (k) (s : State) : straps (slotAsserts k s) = straps s :=
  straps_lineThenUnit (straps_setSlotLine k true s) fun x => by simp

@[simp] theorem straps_trayInserts (t) (s : State) : straps (trayInserts t s) = straps s :=
  straps_lineThenUnit (unit := fun x => trayChanged t true (Rotor.inserted x.params.spinUpTicks) x)
    (straps_setTrayLine t true s) fun x => by simp

@[simp] theorem straps_trayRemoves (t) (s : State) : straps (trayRemoves t s) = straps s :=
  straps_lineThenUnit (straps_setTrayLine t false s) fun x => by simp

/-- A tick takes what is due, samples the module lines and counts the timers; the straps are not among the lines
sampled (02 R40, 10 R162). -/
@[simp] theorem straps_tickEvent (pres good) (s : State) : straps (tickEvent pres good s) = straps s := by
  have hunits (x : State) : straps (tickUnits x) = straps x := straps_of_without (by simp)
  rw [tickEvent, hunits, straps_sampleTick]
  exact straps_of_without (by simp)

/-! ### The forms of a command's meaning -/

theorem straps_finish (s : State) : straps (finish s) = straps s :=
  straps_of_without (by simp)

theorem straps_occur {f : State → State} {s : State} (hf : straps (f s) = straps s) :
    straps (occur f s) = straps s := by
  unfold occur
  split
  · rfl
  · exact (straps_finish _).trans hf

theorem straps_endIf (p : State → Bool) (errs) (s : State) : straps (endIf p errs s) = straps s := by
  unfold endIf
  split
  · exact straps_occur (straps_of_without (endAccess_notPins errs s))
  · rfl

theorem straps_lineEvent {level event : State → State} {s : State} (hl : straps (level s) = straps s)
    (he : straps (event s) = straps s) : straps (lineEvent level event s) = straps s := by
  unfold lineEvent
  split
  · exact hl
  · exact (straps_finish _).trans he

/-- Command `c` leaves the strap values of state `s`. -/
def KeepsStraps (c : Instr) (s : State) : Prop := ∀ t, exec c s = .next t → straps t = straps s

theorem KeepsStraps.of_next {c : Instr} {s u : State} (he : exec c s = .next u) (hu : straps u = straps s) :
    KeepsStraps c s := by
  intro t ht
  cases he.symm.trans ht
  exact hu

/-- A command whose own effect leaves the lines and straps. -/
theorem KeepsStraps.of_occur {c : Instr} {s : State} {f : State → State} (he : exec c s = .next (occur f s))
    (hf : (f s).without notPins = s.without notPins) : KeepsStraps c s :=
  .of_next he (straps_occur (straps_of_without hf))

/-- A command that is the end of an access. -/
theorem KeepsStraps.of_endIf {c : Instr} {s : State} {p : State → Bool} {errs}
    (he : exec c s = .next (endIf p errs s)) : KeepsStraps c s := .of_next he (straps_endIf p errs s)

/-- Both branches of a guarded effect keep the strap values. -/
theorem straps_ite {P : Prop} [Decidable P] {s t u : State} (ht : straps t = straps s) (hu : straps u = straps s) :
    straps (if P then t else u) = straps s := by
  split
  · exact ht
  · exact hu

/-! ### Every command but the deassertion of PWRUP_RESET -/

/-- The straps are sampled at the deassertion of PWRUP_RESET alone (02 R23). The cases are grouped by the form of the
command's meaning. -/
theorem keepsStraps_of_ne_deassert (c : Instr) (s : State) (hc : ∀ m d, c ≠ .pwrupResetDeassert m d) :
    KeepsStraps c s := by
  cases c with
  -- The resets.
  | pwrupResetDeassert m d => exact absurd rfl (hc m d)
  | pwrupResetAssert => exact .of_next rfl (straps_ite rfl (straps_resetAsserts s))
  -- Accesses of the supervisors.
  | upstreamRead | upstreamWrite | loadStart | descriptorChanged | desiredOn | desiredOff | speedChange
  | heartbeat | consumerIndexWrite | zewWrite | claim | release | commit | clone | resume | abandon | restart
  | ack | install | remove => exact .of_occur rfl (by simp)
  -- Ends of accesses.
  | accessEnd errs => exact .of_occur rfl (endAccess_notPins errs s)
  | loadFirstRead | loadReadData | entryPublicationEnd | operationFirstRead | closingEnd | installReadData
  | twWritePerformed | waitingValueJoins | publishPendingQueued | publishedProducerUpdate | commitReadData
  | flipComplete | cloneReadData | abandonedReadData => exact .of_endIf rfl
  -- Timers, measurements and the link.
  | hourTick | chassisSecond | heartbeatExpiry | stalledMeasurement | spinUpExpiry | fallTimerExpiry
  | derateTimerExpiry | recoveryTimerExpiry | debouncedChange | pollTimerExpiry | linkStuck
  | clearTimerExpiry | indicatorFlash | tachEdge => exact .of_occur rfl (by simp)
  | pollAttemptStart | pollAttemptEnd | arbLost => exact .of_occur rfl (by simp [onLinkAfterStuck])
  | goodMeasurement rotor =>
    exact .of_next rfl (straps_ite (straps_occur (straps_of_without (by simp))) rfl)
  | tick pres good => exact .of_next rfl (straps_occur (straps_tickEvent pres good s))
  -- Lines.
  | runDeassert => exact .of_next rfl (straps_ite (straps_lineEvent (by simp) (by simp)) rfl)
  | runAssert => exact .of_next rfl (straps_ite rfl (straps_lineEvent (by simp) (by simp)))
  | bypassAssert | bypassDeassert => exact .of_next rfl (straps_lineEvent (by simp) (by simp))
  | slotPresDeassert | trayRemoval => exact .of_next rfl (straps_ite (straps_lineEvent (by simp) (by simp)) rfl)
  | slotPresAssert | trayInsertion => exact .of_next rfl (straps_ite rfl (straps_lineEvent (by simp) (by simp)))
  | linkBusyChange busy clkLow =>
    have hstuck : straps (stuck s) = straps s := straps_of_without (by simp)
    exact .of_next rfl (straps_lineEvent (straps_setClkLine clkLow s) ((straps_linkChange busy clkLow _).trans hstuck))

/-! ### What the straps give -/

/-- The memory size of a known MEM_SIZE value (02 R23). -/
theorem memSize_of_memSel {x : Pins} {m : BitVec 2} (h : x.memSel = m) : memSize x = 2097152 * 2 ^ m.toNat := by
  subst h; rfl

/-- The descriptor base of a known pair of strap values (02 R23). -/
theorem descBase_of_straps {x : Pins} {m d : BitVec 2} (hm : x.memSel = m) (hd : x.descSel = d) :
    descBase x = 2097152 * 2 ^ m.toNat * (d.toNat + 1) / 4 - 512 := by
  subst hm hd; rfl

/-- The deassertion of PWRUP_RESET samples both straps (02 R23, R39). -/
theorem pwrupResetDeassert_samples (m d : BitVec 2) (s : State) (h : s.pins.inReset = true) :
    ∃ t, exec (.pwrupResetDeassert m d) s = .next t ∧ t.pins.memSel = m ∧ t.pins.descSel = d :=
  ⟨resetDeasserts m d s, by simp [exec, execPwrupResetDeassert, h], rfl, rfl⟩

/-- Settles O5: the deassertion of PWRUP_RESET samples the straps, `keepsStraps_of_ne_deassert` goes through every other
command, and the sixteen bases are the closed form of `descBase_of_straps` at each pair. -/
theorem strapsGiveMemorySizeAndDescriptorBase : Obligations.StrapsGiveMemorySizeAndDescriptorBase := by
  refine ⟨pwrupResetDeassert_samples, fun c s t hc ht => straps_eq_iff.mp (keepsStraps_of_ne_deassert c s hc t ht),
    fun x => ?_⟩
  exact ⟨memSize_of_memSel, memSize_of_memSel, memSize_of_memSel, memSize_of_memSel, rfl,
    descBase_of_straps, descBase_of_straps, descBase_of_straps, descBase_of_straps,
    descBase_of_straps, descBase_of_straps, descBase_of_straps, descBase_of_straps,
    descBase_of_straps, descBase_of_straps, descBase_of_straps, descBase_of_straps,
    descBase_of_straps, descBase_of_straps, descBase_of_straps, descBase_of_straps⟩

end Sys2Proof.Machine

/-! The power budget (06 R94 to R98): what the figures are and how large they get, and how the committed draw follows
the ports through the shed step, the admission walk and the speed test. -/

namespace Sys2Proof.Machine

/-! ### Contributions and available power (06 R94, R95) -/

theorem contribution_le (m : ModState) (n : Nat) : contribution m n ≤ n := by
  cases m <;> simp only [contribution] <;> omega

theorem contribution_zero (m : ModState) : contribution m 0 = 0 :=
  Nat.le_zero.mp (contribution_le m 0)

/-- No redundancy mode makes more available than the four contributions. -/
theorem availableOf_le_sum (r : Redundancy) (a b c d : Nat) : availableOf r a b c d ≤ a + b + c + d := by
  cases r <;> simp only [availableOf] <;> omega

theorem contribs_getElem (p : Params) (g : Governor) (i : Fin 4) :
    (contribs p g)[i] = contribution g.modState[i] (p.mods[i]).capacity := by
  fin_cases i <;> rfl

theorem contribs_le {p : Params} {n : Nat} (h : ∀ i : ModIx, (p.mods[i]).capacity ≤ n) (g : Governor) (i : Fin 4) :
    (contribs p g)[i] ≤ n :=
  contribs_getElem p g i ▸ (contribution_le ..).trans (h i)

theorem recompute_available_le {p : Params} (h : ∀ i : ModIx, (p.mods[i]).capacity ≤ 6000) (g : Governor) :
    (g.recompute p).available ≤ 24000 := by
  have hsum : (g.recompute p).available
      ≤ (contribs p g)[0] + (contribs p g)[1] + (contribs p g)[2] + (contribs p g)[3] := availableOf_le_sum ..
  have h0 : (contribs p g)[0] ≤ 6000 := contribs_le h g 0
  have h1 : (contribs p g)[1] ≤ 6000 := contribs_le h g 1
  have h2 : (contribs p g)[2] ≤ 6000 := contribs_le h g 2
  have h3 : (contribs p g)[3] ≤ 6000 := contribs_le h g 3
  omega

/-! ### Fan load, fixed load and headroom (06 R96, R97) -/

/-- A sum that the model folds from 0 is the sum of the list of its terms. -/
theorem foldl_add_eq_sum_map {α : Type} (f : α → Nat) (l : List α) :
    l.foldl (fun a x => a + f x) 0 = (l.map f).sum := by
  rw [List.sum_eq_foldl, List.foldl_map]

/-- A sum over all indices is at most their number times a bound of its terms. -/
theorem sum_map_finRange_le {n b : Nat} {f : Fin n → Nat} (h : ∀ i, f i ≤ b) :
    ((List.finRange n).map f).sum ≤ n * b := by
  simpa using List.sum_le_card_nsmul ((List.finRange n).map f) b (by simpa using h)

theorem trayLoad_le {present : Bool} {w d : Nat} (hw : w ≤ 300) (hd : d ≤ 100) : trayLoad present w d ≤ 300 := by
  have hmul : w * d ≤ 300 * 100 := Nat.mul_le_mul hw hd
  unfold trayLoad
  split <;> omega

theorem fanLoadOf_eq_sum (p : Params) (g : Governor) :
    fanLoadOf p g = ((List.finRange 4).map fun t : TrayIx =>
      trayLoad (g.trayPresent.getLsbD t.val) (p.trays[t]).maxWatts g.duty[t]).sum :=
  foldl_add_eq_sum_map ..

theorem fanLoadOf_le {p : Params} {g : Governor}
    (h : ∀ t : TrayIx, (p.trays[t]).maxWatts ≤ 300 ∧ g.duty[t] ≤ 100) :
    fanLoadOf p g ≤ 1200 :=
  fanLoadOf_eq_sum p g ▸ sum_map_finRange_le fun t => trayLoad_le (h t).1 (h t).2

theorem cardLoad_eq_sum (p : Params) (g : Governor) :
    cardLoad p g = ((List.finRange 8).map fun k : SlotIx =>
      if g.slotPresent.getLsbD k.val = true ∧ (p.slots[k]).capable = true then (p.slots[k]).cardBase else 0).sum := by
  simp only [cardLoad, slotUp, Bool.and_eq_true, foldl_add_eq_sum_map]

theorem cardLoad_le {p : Params} (h : ∀ k : SlotIx, (p.slots[k]).cardBase ≤ 600) (g : Governor) :
    cardLoad p g ≤ 4800 := by
  rw [cardLoad_eq_sum]
  refine sum_map_finRange_le (n := 8) (b := 600) fun k => ?_
  split
  · exact h k
  · exact Nat.zero_le _

theorem recompute_fixedLoad (p : Params) (g : Governor) :
    (g.recompute p).fixedLoad = p.chassisBase + cardLoad p g + fanLoadOf p g := rfl

theorem recompute_fixedLoad_le {p : Params} {g : Governor} (hbase : p.chassisBase ≤ 3000)
    (hcard : ∀ k : SlotIx, (p.slots[k]).cardBase ≤ 600)
    (hfan : ∀ t : TrayIx, (p.trays[t]).maxWatts ≤ 300 ∧ g.duty[t] ≤ 100) : (g.recompute p).fixedLoad ≤ 9000 := by
  have hc := cardLoad_le hcard g
  have hf := fanLoadOf_le hfan
  rw [recompute_fixedLoad]
  omega

/-- The headroom is what the reserve and the fixed load leave of the available power, and 0 where they leave
nothing: the subtraction stops at 0. -/
theorem recompute_headroom (p : Params) (g : Governor) :
    (g.recompute p).headroom = (g.recompute p).available - (p.reserve + (g.recompute p).fixedLoad) := rfl

theorem headroomDw_eq (g : Governor) : g.headroomDw = 10 * g.headroom := Nat.mul_comm ..

theorem recompute_headroomDw_le {p : Params} (h : ∀ i : ModIx, (p.mods[i]).capacity ≤ 6000) (g : Governor) :
    (g.recompute p).headroomDw ≤ 240000 := by
  have hav := recompute_available_le h g
  rw [headroomDw_eq, recompute_headroom]
  omega

/-! ### The draw of a port (06 R98) -/

theorem drawAt_class1 (p : Params) (q : Port) {code : BitVec 2} (h : code = 0 ∨ code = 1) :
    drawAt p q code = (p.slots[slotOf q]).class1 := by
  rcases h with rfl | rfl <;> rfl

theorem drawAt_class2 (p : Params) (q : Port) {code : BitVec 2} (h : code = 2 ∨ code = 3) :
    drawAt p q code = (p.slots[slotOf q]).class2 := by
  rcases h with rfl | rfl <;> rfl

theorem clampTo_bounds {lo hi : Nat} (h : lo ≤ hi) (v : Nat) : lo ≤ clampTo lo hi v ∧ clampTo lo hi v ≤ hi := by
  unfold clampTo; omega

theorem clamp_slots (p : Params) (k : SlotIx) : (p.clamp.slots)[k] = (p.slots[k]).clamp := by
  simp [Params.clamp]

theorem drawAt_clamp_bounds (p : Params) (q : Port) (code : BitVec 2) :
    5 ≤ drawAt p.clamp q code ∧ drawAt p.clamp q code ≤ 400 := by
  unfold drawAt
  rw [clamp_slots]
  split <;> exact clampTo_bounds (by decide) _

/-! ### What a port that goes ON or OFF or changes its speed code does to the committed draw (06 R98, R99) -/

theorem Governor.setPort_ports (g : Governor) (q x : Port) (e : PortEntry) :
    (g.setPort q e).ports[x] = if x = q then e else g.ports[x] := by
  unfold Governor.setPort
  split
  · next h => subst h; exact upd_get_same ..
  · next h => exact upd_get_ne _ _ _ _ (Ne.symm h)

@[simp] theorem turnOff_committed (q r) (s : State) :
    (turnOff q r s).gov.committed = s.gov.committed - draw s q := rfl

@[simp] theorem admitPort_committed (q) (s : State) :
    (admitPort q s).gov.committed = s.gov.committed + draw s q := by
  simp [admitPort]

@[simp] theorem admitPort_headroomDw (q) (s : State) : (admitPort q s).gov.headroomDw = s.gov.headroomDw := by
  simp [admitPort, Governor.headroomDw, Governor.setPort]

@[simp] theorem setReason_committed (q r) (s : State) : (setReason q r s).gov.committed = s.gov.committed := by
  unfold setReason; split <;> rfl

@[simp] theorem setReason_headroomDw (q r) (s : State) : (setReason q r s).gov.headroomDw = s.gov.headroomDw := by
  unfold setReason; split <;> rfl

/-- The speed test: an equal draw leaves the committed draw, a new draw within the headroom takes the old one's place,
and any other turns the port OFF (06 R99). -/
theorem speedOfOnPort_committed (q : Port) (code : BitVec 2) (s : State) :
    (speedOfOnPort q code s).gov.committed =
      if drawAt s.params q code = draw s q then s.gov.committed
      else if s.gov.committed - draw s q + drawAt s.params q code ≤ s.gov.headroomDw then
        s.gov.committed - draw s q + drawAt s.params q code
      else s.gov.committed - draw s q := by
  simp only [speedOfOnPort, eq_comm (a := draw s q)]
  split_ifs <;> rfl

/-! ### The draws of the ports that are ON, summed -/

/-- What a port adds to the sum of the draws of the ON ports. -/
def drawOn (s : State) (q : Port) : Nat := if (s.gov.ports[q]).effective then draw s q else 0

theorem drawsOn_eq_sum (s : State) : drawsOn s = ∑ q : Port, drawOn s q := Fin.sum_univ_def _ |>.symm

theorem drawOn_eq_zero {s : State} {q : Port} (h : (s.gov.ports[q]).effective = false) : drawOn s q = 0 :=
  if_neg (Bool.eq_false_iff.mp h)

theorem drawOn_eq_draw {s : State} {q : Port} (h : (s.gov.ports[q]).effective = true) : drawOn s q = draw s q :=
  if_pos h

theorem drawsOn_eq_zero {s : State} (h : ∀ q : Port, (s.gov.ports[q]).effective = false) : drawsOn s = 0 := by
  rw [drawsOn_eq_sum]
  exact Finset.sum_eq_zero fun q _ => drawOn_eq_zero (h q)

theorem drawsOn_le {s : State} (h : ∀ q : Port, draw s q ≤ 400) : drawsOn s ≤ 153600 := by
  refine sum_map_finRange_le (n := 384) (b := 400) fun q => ?_
  split
  · exact h q
  · exact Nat.zero_le _

theorem turnOff_ports_ne {q x : Port} (h : x ≠ q) (r) (s : State) :
    (turnOff q r s).gov.ports[x] = s.gov.ports[x] :=
  (Governor.setPort_ports ..).trans (if_neg h)

theorem turnOff_effective_self (q : Port) (r) (s : State) : ((turnOff q r s).gov.ports[q]).effective = false :=
  congrArg PortEntry.effective ((Governor.setPort_ports ..).trans (if_pos rfl))

/-- A port that is turned OFF adds nothing more to the sum, and every other port what it added before. -/
theorem drawOn_turnOff (q : Port) (r) (s : State) : drawOn (turnOff q r s) = Function.update (drawOn s) q 0 := by
  funext x
  by_cases h : x = q
  · subst h
    rw [Function.update_self, drawOn_eq_zero (turnOff_effective_self ..)]
  · rw [Function.update_of_ne h, drawOn, drawOn, draw, draw, turnOff_ports_ne h]
    rfl

theorem drawsOn_turnOff {q : Port} {s : State} (h : (s.gov.ports[q]).effective = true) (r) :
    drawsOn (turnOff q r s) = drawsOn s - draw s q := by
  have hbefore := Finset.add_sum_erase Finset.univ (drawOn s) (Finset.mem_univ q)
  rw [drawOn_eq_draw h, Finset.erase_eq] at hbefore
  rw [drawsOn_eq_sum, drawsOn_eq_sum, drawOn_turnOff, Finset.sum_update_of_mem (Finset.mem_univ q), ← hbefore]
  omega

/-! ### The shed step (07 R110) -/

theorem mem_shedOrder {p : Params} (h : ∀ k : SlotIx, (p.slots[k]).shedRank ≤ 7) (q : Port) : q ∈ shedOrder p := by
  have hslot : slotOf q ∈ shedSlots p := by
    simp only [shedSlots, List.mem_flatMap, List.mem_range, List.mem_filter, List.mem_reverse, beq_iff_eq]
    exact ⟨(p.slots[slotOf q]).shedRank, Nat.lt_succ_of_le (h _), List.mem_finRange _, rfl⟩
  have hport : q ∈ slotPorts (slotOf q) :=
    List.mem_map.mpr ⟨⟨q.val % 48, Nat.mod_lt _ (by decide)⟩, List.mem_finRange _, Fin.ext (Nat.div_add_mod ..)⟩
  exact List.mem_flatMap.mpr ⟨slotOf q, hslot, List.mem_reverse.mpr hport⟩

/-- The committed draw is within the headroom, the comparison that sheds and admissions are made by (06 R97, R98). -/
def withinHeadroom (s : State) : Prop := s.gov.committed ≤ s.gov.headroomDw

/-- What the shed step does at a port: nothing where the committed draw is within the headroom or the port is OFF,
else it sheds the port. -/
theorem shedStep_cases (a : State × Nat) (q : Port) :
    (shedStep a q).1 = a.1 ∧ (withinHeadroom a.1 ∨ (a.1.gov.ports[q]).effective = false)
    ∨ (shedStep a q).1 = shedOne q a.1 ∧ ¬withinHeadroom a.1 ∧ (a.1.gov.ports[q]).effective = true := by
  unfold shedStep
  split
  · next h =>
    rw [Bool.and_eq_true_iff, decide_eq_true_iff, ← not_le] at h
    exact .inr ⟨rfl, h⟩
  · next h =>
    rw [Bool.and_eq_true_iff, decide_eq_true_iff, not_and_or, not_lt, Bool.not_eq_true] at h
    exact .inl ⟨rfl, h⟩

theorem shedOne_ports (q x : Port) (s : State) :
    (shedOne q s).gov.ports[x] = (turnOff q .shed s).gov.ports[x] := rfl

theorem shedOne_committed (q : Port) (s : State) : (shedOne q s).gov.committed = s.gov.committed - draw s q := rfl

theorem drawsOn_shedOne (q : Port) (s : State) : drawsOn (shedOne q s) = drawsOn (turnOff q .shed s) := rfl

/-- How far the shed pass has come: the committed draw is the sum of the draws of the ON ports, and it is within the
headroom or every port passed is OFF. -/
def shedUpTo (l : List Port) (s : State) : Prop :=
  s.gov.committed = drawsOn s ∧ (withinHeadroom s ∨ ∀ q ∈ l, (s.gov.ports[q]).effective = false)

theorem shedUpTo.shedStep {l : List Port} {a : State × Nat} (h : shedUpTo l a.1) (q : Port) :
    shedUpTo (l ++ [q]) (shedStep a q).1 := by
  obtain ⟨hsum, hpassed⟩ := h
  obtain ⟨hsame, hq⟩ | ⟨hshed, hout, hon⟩ := shedStep_cases a q
  · rw [hsame]
    refine ⟨hsum, hq.elim .inl fun hoff => hpassed.imp_right fun hl x hx => ?_⟩
    rw [List.mem_append, List.mem_singleton] at hx
    exact hx.elim (hl x) fun hxq => hxq ▸ hoff
  · rw [hshed]
    refine ⟨by rw [shedOne_committed, drawsOn_shedOne, drawsOn_turnOff hon, hsum], .inr fun x hx => ?_⟩
    rw [shedOne_ports]
    by_cases hxq : x = q
    · exact hxq ▸ turnOff_effective_self ..
    · rw [turnOff_ports_ne hxq]
      exact hpassed.resolve_left hout x ((List.mem_append.mp hx).resolve_right (by simpa using hxq))

theorem shedUpTo_foldl {s : State} (hs : s.gov.committed = drawsOn s) (l : List Port) (n : Nat) :
    shedUpTo l (l.foldl shedStep (s, n)).1 := by
  induction l using List.reverseRecOn with
  | nil => exact ⟨hs, .inr fun _ h => absurd h List.not_mem_nil⟩
  | append_singleton l q ih => rw [List.foldl_concat]; exact ih.shedStep q

/-- A pass over every port reaches the headroom: with all ports OFF the committed draw is 0. -/
theorem withinHeadroom_of_shedUpTo {l : List Port} (hl : ∀ q, q ∈ l) {s : State} (h : shedUpTo l s) :
    withinHeadroom s := by
  obtain ⟨hsum, hin | hoff⟩ := h
  · exact hin
  · have hzero : s.gov.committed = 0 := hsum.trans (drawsOn_eq_zero fun q => hoff q (hl q))
    exact hzero.trans_le (Nat.zero_le _)

theorem withinHeadroom_shed {s : State} (hs : s.gov.committed = drawsOn s)
    (hranks : ∀ k : SlotIx, (s.params.slots[k]).shedRank ≤ 7) : withinHeadroom (shed s) := by
  have hpass : withinHeadroom ((shedOrder s.params).foldl shedStep (s, 0)).1 :=
    withinHeadroom_of_shedUpTo (mem_shedOrder hranks) (shedUpTo_foldl hs ..)
  simp only [shed]
  split_ifs with hin hnone
  · exact hin
  · exact hpass
  · simpa only [withinHeadroom, appendEvent_gov] using hpass

/-! ### The admission walk and the end of a settle (07 R112, R113) -/

/-- What the walk does at a port: it gives it a reason, or it admits it, where its draw and the margin fit. -/
theorem walkStep_cases (a : State × Nat) (q : Port) :
    (∃ r, (walkStep a q).1 = setReason q r a.1)
    ∨ (walkStep a q).1 = admitPort q a.1
      ∧ a.1.gov.committed + draw a.1 q + a.1.params.margin ≤ a.1.gov.headroomDw := by
  unfold walkStep
  dsimp only
  split
  · exact .inl ⟨.thermal, rfl⟩
  · split
    · exact .inl ⟨.unlicensed, rfl⟩
    · split
      · next hfits => exact .inr ⟨rfl, hfits⟩
      · exact .inl ⟨fitReason _, rfl⟩

theorem walkStep_committed (a : State × Nat) (q : Port) :
    (walkStep a q).1.gov.committed = a.1.gov.committed
    ∨ (walkStep a q).1.gov.committed = a.1.gov.committed + draw a.1 q
      ∧ a.1.gov.committed + draw a.1 q + a.1.params.margin ≤ a.1.gov.headroomDw := by
  obtain ⟨r, hr⟩ | ⟨hadm, hfits⟩ := walkStep_cases a q
  · exact .inl (by rw [hr, setReason_committed])
  · exact .inr ⟨by rw [hadm, admitPort_committed], hfits⟩

theorem walkStep_headroomDw (a : State × Nat) (q : Port) :
    (walkStep a q).1.gov.headroomDw = a.1.gov.headroomDw := by
  obtain ⟨r, hr⟩ | ⟨hadm, -⟩ := walkStep_cases a q
  · rw [hr, setReason_headroomDw]
  · rw [hadm, admitPort_headroomDw]

theorem withinHeadroom_walkStep {a : State × Nat} (h : withinHeadroom a.1) (q : Port) :
    withinHeadroom (walkStep a q).1 := by
  unfold withinHeadroom at h ⊢
  rw [walkStep_headroomDw]
  obtain hsame | ⟨hmore, hfits⟩ := walkStep_committed a q <;> omega

theorem withinHeadroom_foldl_walkStep (l : List Port) {a : State × Nat} (h : withinHeadroom a.1) :
    withinHeadroom (l.foldl walkStep a).1 := by
  induction l generalizing a with
  | nil => exact h
  | cons q l ih => exact ih (withinHeadroom_walkStep h q)

theorem withinHeadroom_admissionWalk {s : State} (h : withinHeadroom s) : withinHeadroom (admissionWalk s) := by
  have hwalk : withinHeadroom (s.gov.held.foldl walkStep (s, 0)).1 := withinHeadroom_foldl_walkStep _ h
  simp only [admissionWalk]
  split_ifs
  · exact hwalk
  · simpa only [withinHeadroom, appendEvent_gov] using hwalk

theorem handUnlicensed_gov (s : State) : (handUnlicensed s).gov = s.gov :=
  State.gov_of_without (p := (· != .gov)) (by simp) rfl

theorem handBudget_gov (a b c) (s : State) : (handBudget a b c s).gov = s.gov :=
  State.gov_of_without (p := (· != .gov)) (by simp) rfl

/-- The end of a settle counts the held ports, and leaves the rest of the governor. -/
theorem settleEnd_gov (s : State) :
    (settleEnd s).gov = { s.gov with heldPower := heldWith s.gov .power, heldShed := heldWith s.gov .shed } := by
  simp only [settleEnd, handBudget_gov, handUnlicensed_gov, publish_gov, State.setGov_gov]

theorem withinHeadroom_settle {s : State} (hs : s.gov.committed = drawsOn s)
    (hranks : ∀ k : SlotIx, (s.params.slots[k]).shedRank ≤ 7) : withinHeadroom (settle s) := by
  have hwalked := withinHeadroom_admissionWalk (withinHeadroom_shed hs hranks)
  unfold withinHeadroom settle
  rw [settleEnd_gov]
  exact hwalked

/-! ### The statement -/

/-- Settles O7: the figures are read off their definitions and bounded term by term; the committed draw is followed
through the cases of the shed step and of the walk. -/
theorem supplyAndFanLoadFigures : Obligations.SupplyAndFanLoadFigures := by
  refine ⟨fun n => ⟨rfl, rfl, rfl, rfl⟩, rfl, contribution_zero, fun a b c d => ⟨rfl, rfl, rfl⟩, ?_, ?_, rfl, ?_⟩
  · intro r a b c d ha hb hc hd
    have hsum := availableOf_le_sum r a b c d
    omega
  · intro p g
    refine ⟨contribs_getElem p g, rfl, fanLoadOf_eq_sum p g, fanLoadOf_le, ?_, recompute_fixedLoad_le, ?_, ?_,
      headroomDw_eq _, fun h => recompute_headroomDw_le h g⟩
    · rw [← cardLoad_eq_sum]; rfl
    · rw [recompute_headroom]; omega
    · rw [recompute_headroom]; omega
  · intro p q code
    refine ⟨drawAt_class1 p q, drawAt_class2 p q, rfl, (drawAt_clamp_bounds p q code).1, (drawAt_clamp_bounds p q code).2,
      fun s => ⟨rfl, admitPort_committed q s, fun r => turnOff_committed q r s, ?_, ?_, ?_, ?_⟩⟩
    · rintro n t rfl
      exact headroomDw_eq s.gov ▸ walkStep_committed (s, n) q
    · exact headroomDw_eq s.gov ▸ speedOfOnPort_committed q code s
    · intro hsum hranks
      exact headroomDw_eq _ ▸ withinHeadroom_settle hsum hranks
    · intro hsum hdraws
      exact hsum.trans_le (drawsOn_le hdraws)

end Sys2Proof.Machine

/-! The critical hold (09 R157): what a handed Tc makes of it, of the thermal hold set and of the duties. Each operation
of the fan unit on the way is described once, by the fields of the fan unit after it. -/

namespace Sys2Proof.Machine

/-! ### The critical hold that a Tc gives -/

theorem critHoldOf_none (p : Params) (held : Bool) : critHoldOf p none held = false := rfl

theorem critHoldOf_of_critical_le {p : Params} {t : Int} (h : p.critical ≤ t) (held : Bool) :
    critHoldOf p (some t) held = true := if_pos h

theorem critHoldOf_of_lt_end {p : Params} {t : Int} (h : t < p.critical - 5) (held : Bool) :
    critHoldOf p (some t) held = false := by
  have hbelow : ¬ p.critical ≤ t := by omega
  simp [critHoldOf, hbelow, h]

/-- The band of five degrees below critical, in which the hold stays. -/
theorem critHoldOf_of_band {p : Params} {t : Int} (hlo : p.critical - 5 ≤ t) (hhi : t ≤ p.critical - 1)
    (held : Bool) : critHoldOf p (some t) held = held := by
  have hbelow : ¬ p.critical ≤ t := by omega
  have habove : ¬ t < p.critical - 5 := by omega
  simp [critHoldOf, hbelow, habove]

/-! ### A recomputed hold set and the critical hold that changes -/

theorem handHoldSet_fan (h) (s : State) : (handHoldSet h s).fan = s.fan :=
  State.fan_of_without (p := (· != .fan)) (by simp) rfl

theorem rehold_fan (c) (s : State) :
    (rehold c s).fan = { s.fan with holdSet := holdSetOf s.params s.fan } := by
  by_cases h : holdSetOf s.params s.fan = s.fan.holdSet
  · simp [rehold, h]
  · simp [rehold, h, publishFan, handHoldSet_fan]

theorem followCritical_of_eq {s : State} (h : critHoldOf s.params s.fan.tc s.fan.critHold = s.fan.critHold) :
    followCritical s = s := if_pos h

theorem followCritical_fan_of_ne {s : State} {h : Bool} (hh : critHoldOf s.params s.fan.tc s.fan.critHold = h)
    (hne : h ≠ s.fan.critHold) :
    (followCritical s).fan =
      { s.fan with critHold := h, holdSet := holdSetOf s.params { s.fan with critHold := h } } := by
  simp [followCritical, hh, hne, rehold_fan, publishFan]

theorem followCritical_critHold (s : State) :
    (followCritical s).fan.critHold = critHoldOf s.params s.fan.tc s.fan.critHold := by
  by_cases h : critHoldOf s.params s.fan.tc s.fan.critHold = s.fan.critHold
  · rw [followCritical_of_eq h, h]
  · rw [followCritical_fan_of_ne rfl h]

theorem followCritical_target (s : State) : (followCritical s).fan.target = s.fan.target := by
  by_cases h : critHoldOf s.params s.fan.tc s.fan.critHold = s.fan.critHold
  · rw [followCritical_of_eq h]
  · rw [followCritical_fan_of_ne rfl h]

theorem followCritical_trays (s : State) : (followCritical s).fan.trays = s.fan.trays := by
  by_cases h : critHoldOf s.params s.fan.tc s.fan.critHold = s.fan.critHold
  · rw [followCritical_of_eq h]
  · rw [followCritical_fan_of_ne rfl h]

/-- The hold set is that of the critical hold it is recomputed for: it does not depend on the hold set before. -/
theorem followCritical_holdSet_of_ne {s : State} (h : (followCritical s).fan.critHold ≠ s.fan.critHold) :
    (followCritical s).fan.holdSet = holdSetOf s.params (followCritical s).fan := by
  rw [followCritical_critHold] at h
  rw [followCritical_fan_of_ne rfl h]
  rfl

/-! ### A changed target and the trays' duties -/

/-- The fan unit's own state, apart from its trays and rotors. -/
def Fans.central (f : Fans) : Nat × Option Int × Bool × BitVec 8 := (f.target, f.tc, f.critHold, f.holdSet)

theorem Fans.central_eq_iff {f g : Fans} : f.central = g.central ↔
    f.target = g.target ∧ f.tc = g.tc ∧ f.critHold = g.critHold ∧ f.holdSet = g.holdSet := by
  simp [Fans.central]

theorem setTray_central (t x) (s : State) : (setTray t x s).fan.central = s.fan.central := rfl

theorem respin_trays (r) (s : State) : (respin r s).fan.trays = s.fan.trays := by
  unfold respin; split <;> rfl

theorem respin_central (r) (s : State) : (respin r s).fan.central = s.fan.central := by
  unfold respin; split <;> rfl

theorem applyTarget_trays (s : State) (t : TrayIx) :
    (applyTarget s t).fan.trays = upd s.fan.trays t ((s.fan.trays[t]).follow s.fan.target) := by
  simp only [applyTarget, publishTray]
  split_ifs <;> simp [respin_trays, setTray]

theorem applyTarget_central (s : State) (t : TrayIx) : (applyTarget s t).fan.central = s.fan.central := by
  simp only [applyTarget, publishTray]
  split_ifs <;> simp [respin_central, setTray_central]

theorem foldl_applyTarget_central (l : List TrayIx) (s : State) :
    (l.foldl applyTarget s).fan.central = s.fan.central := by
  induction l generalizing s with
  | nil => rfl
  | cons t l ih => rw [List.foldl_cons, ih, applyTarget_central]

/-- A duty rises to a higher target at once, and is not lowered by a lower one (09 R154). -/
theorem Tray.follow_duty (n : Nat) (y : Tray) : (y.follow n).duty = max y.duty n := by
  by_cases h : y.duty < n
  · rw [Tray.follow, if_pos h, max_eq_right h.le]
  · rw [Tray.follow, if_neg h, max_eq_left (not_lt.mp h)]
    split_ifs <;> rfl

theorem applyTarget_duty (s : State) (t x : TrayIx) :
    ((applyTarget s t).fan.trays[x]).duty =
      if x = t then max (s.fan.trays[x]).duty s.fan.target else (s.fan.trays[x]).duty := by
  rw [applyTarget_trays]
  split
  · next h => rw [h, upd_get_same, Tray.follow_duty]
  · next h => rw [upd_get_ne _ _ _ _ (Ne.symm h)]

theorem foldl_applyTarget_duty (l : List TrayIx) (s : State) (x : TrayIx) :
    ((l.foldl applyTarget s).fan.trays[x]).duty =
      if x ∈ l then max (s.fan.trays[x]).duty s.fan.target else (s.fan.trays[x]).duty := by
  induction l generalizing s with
  | nil => simp
  | cons t l ih =>
    have htarget : (applyTarget s t).fan.target = s.fan.target :=
      (Fans.central_eq_iff.mp (applyTarget_central s t)).1
    rw [List.foldl_cons, ih, applyTarget_duty, htarget]
    by_cases hx : x = t
    · simp [hx]
    · simp [hx]

theorem handDuties_fan (before) (s : State) : (handDuties before s).fan = s.fan :=
  State.fan_of_without (p := (· != .fan)) (by simp) rfl

theorem targetOf_of_tc_none {p : Params} {f : Fans} (h : f.tc = none) : targetOf p f = 100 := by
  rw [targetOf, h]

theorem retarget_of_eq {s : State} (h : targetOf s.params s.fan = s.fan.target) : retarget s = s := if_pos h

theorem retarget_fan_of_ne {s : State} (h : targetOf s.params s.fan ≠ s.fan.target) :
    (retarget s).fan =
      ((List.finRange 4).foldl applyTarget
        (s.setFan { s.fan with target := targetOf s.params s.fan })).fan := by
  simp [retarget, h, handDuties_fan, publishFan]

/-- Of the fan unit's own state only the target is changed. -/
theorem retarget_central (s : State) :
    (retarget s).fan.central = { s.fan with target := targetOf s.params s.fan }.central := by
  by_cases h : targetOf s.params s.fan = s.fan.target
  · rw [retarget_of_eq h, h]
  · rw [retarget_fan_of_ne h, foldl_applyTarget_central, State.setFan_fan]

/-- With the duties at or above the target before, every duty is raised to the new target. -/
theorem retarget_duty {s : State} (hs : dutiesAtTarget s) (y : TrayIx) :
    ((retarget s).fan.trays[y]).duty = max (s.fan.trays[y]).duty (targetOf s.params s.fan) := by
  by_cases h : targetOf s.params s.fan = s.fan.target
  · rw [retarget_of_eq h, h, max_eq_left (hs y)]
  · rw [retarget_fan_of_ne h, foldl_applyTarget_duty, if_pos (List.mem_finRange y), State.setFan_fan]

theorem retarget_params (s : State) : (retarget s).params = s.params :=
  State.params_of_without (p := (· != .params)) (by simp) rfl

/-! ### A handed Tc -/

/-- The state in which the critical hold is judged: the Tc is taken and the target is that of the new Tc. -/
def tcTaken (tc : Option Int) (s : State) : State :=
  retarget (publishIfChanged .fan s (s.setFan { s.fan with tc := tc }))

theorem handFanTc_eq (tc) (s : State) : handFanTc tc s = followCritical (tcTaken tc s) := rfl

theorem tcTaken_params (tc) (s : State) : (tcTaken tc s).params = s.params := by
  simp [tcTaken, retarget_params]

theorem tcTaken_central (tc) (s : State) : (tcTaken tc s).fan.central =
    { s.fan with tc := tc, target := targetOf s.params { s.fan with tc := tc } }.central := by
  simp [tcTaken, retarget_central]

theorem tcTaken_duty {s : State} (hs : dutiesAtTarget s) (tc) (y : TrayIx) :
    ((tcTaken tc s).fan.trays[y]).duty =
      max (s.fan.trays[y]).duty (targetOf s.params { s.fan with tc := tc }) := by
  have hbefore : dutiesAtTarget (publishIfChanged .fan s (s.setFan { s.fan with tc := tc })) := by
    simpa [dutiesAtTarget] using hs
  simpa [tcTaken] using retarget_duty hbefore y

theorem handFanTc_critHold (tc) (s : State) :
    (handFanTc tc s).fan.critHold = critHoldOf s.params tc s.fan.critHold := by
  obtain ⟨-, htc, hheld, -⟩ := Fans.central_eq_iff.mp (tcTaken_central tc s)
  rw [handFanTc_eq, followCritical_critHold, tcTaken_params, htc, hheld]

theorem handFanTc_target (tc) (s : State) :
    (handFanTc tc s).fan.target = targetOf s.params { s.fan with tc := tc } := by
  rw [handFanTc_eq, followCritical_target]
  exact (Fans.central_eq_iff.mp (tcTaken_central tc s)).1

theorem handFanTc_duty {s : State} (hs : dutiesAtTarget s) (tc) (y : TrayIx) :
    ((handFanTc tc s).fan.trays[y]).duty =
      max (s.fan.trays[y]).duty (targetOf s.params { s.fan with tc := tc }) := by
  rw [handFanTc_eq, followCritical_trays, tcTaken_duty hs]

theorem handFanTc_holdSet_of_ne {tc} {s : State} (h : (handFanTc tc s).fan.critHold ≠ s.fan.critHold) :
    (handFanTc tc s).fan.holdSet = holdSetOf s.params (handFanTc tc s).fan := by
  obtain ⟨-, -, hheld, -⟩ := Fans.central_eq_iff.mp (tcTaken_central tc s)
  rw [handFanTc_eq] at h ⊢
  rw [← tcTaken_params tc s]
  exact followCritical_holdSet_of_ne (hheld ▸ h)

/-! ### The statement -/

/-- Settles O47: the critical hold after a handed Tc is `critHoldOf` of that Tc, whose bands are gone through; the
target and the duties are those of the recomputed target, which is 100 for an unknown Tc. -/
theorem criticalHoldFollowsTc : Obligations.CriticalHoldFollowsTc := by
  intro s tc
  refine ⟨?atCritical, ?belowEnd, ?unknownTc, ?fullDuty, ?band, handFanTc_holdSet_of_ne⟩
  case atCritical =>
    rintro t rfl ht
    rw [handFanTc_critHold, critHoldOf_of_critical_le ht]
  case belowEnd =>
    rintro t rfl ht
    rw [handFanTc_critHold, critHoldOf_of_lt_end ht]
  case unknownTc =>
    rintro rfl
    rw [handFanTc_critHold, handFanTc_target, critHoldOf_none, targetOf_of_tc_none rfl]
    exact ⟨rfl, rfl⟩
  case fullDuty =>
    rintro rfl hs y
    rw [handFanTc_duty hs, targetOf_of_tc_none rfl]
    exact le_max_right ..
  case band =>
    rintro t rfl hlo hhi
    rw [handFanTc_critHold, critHoldOf_of_band hlo hhi]

end Sys2Proof.Machine
